-- ==== Sys2Proof/Config.lean ====
section
/-!
DEFINITION. The implementation parameters of 00_scope.md rule R5 that a check or a loop bound of the
machine reads. Rule R27 makes them fixed constants of the design. BFC leaves no value free
(93_implementation_defined.md Part A has no 'any value' entry), so this file holds no opaque constant.
-/

namespace Sys2Proof.Config

/-- Key buffer capacity `KEYMAX` in bytes (rule R5). -/
@[simp] abbrev keyMax : Nat := 72

/-- Salt length `SALTBYTES` in bytes (rule R5). -/
@[simp] abbrev saltBytes : Nat := 16

/-- Least legal cost (rule R5). -/
@[simp] abbrev costMin : Nat := 4

/-- Greatest legal cost (rule R5). -/
@[simp] abbrev costMax : Nat := 31

/-- Passes of the magic plaintext through the cipher (rule R5). -/
@[simp] abbrev ecbPasses : Nat := 64

/-- Capacity of `BBUF` in bytes (rule R5). -/
@[simp] abbrev binaryMax : Nat := 24

/-- Capacity of `CBUF` in characters (rule R5). -/
@[simp] abbrev textMax : Nat := 32

/-- Size of the host register space in bytes (rule R5). -/
@[simp] abbrev windowBytes : Nat := 4096

/-- The one host access width that has a meaning, in bits (rules R5 and R35). -/
@[simp] abbrev hostWidth : Nat := 32

end Sys2Proof.Config
end

