-- ==== Sys2Proof/Syntax.lean ====
section
/-!
DEFINITION. The commands of BFC, one constructor per row of spec/opcode_table.json
(30_encoding.md rule R50). A word that selects no row is no command: Decode.lean rejects it.
-/

namespace Sys2Proof

/-- The eleven commands of 30_encoding.md rule R50. The operands of all but the last two are registers
with fixed names (rule R46), and `EXPANDSTATE` has one constructor for each source (rule R47). -/
inductive Instr where
  /-- `INIT`: load the initial constants (41_init_constants.md rule R70). -/
  | init
  /-- `EXPANDKEY`: salted expansion with the key (42_blowfish_core.md rule R85). -/
  | expandkey
  /-- `EXPANDSTATE.K`: unsalted expansion with the key (42_blowfish_core.md rule R86). -/
  | expandstateK
  /-- `EXPANDSTATE.S`: unsalted expansion with the salt as key (42_blowfish_core.md rule R87). -/
  | expandstateS
  /-- `ENCBLOCK`: encrypt the block in `L`, `R` (42_blowfish_core.md rule R84). -/
  | encblock
  /-- `EKSSETUP`: the Eksblowfish key setup (43_eksblowfish.md rule R96). -/
  | ekssetup
  /-- `ECBMAGIC`: 64 passes over the magic plaintext (43_eksblowfish.md rule R99). -/
  | ecbmagic
  /-- `BCRYPT`: the whole hash as one command (43_eksblowfish.md rule R100). -/
  | bcrypt
  /-- `SCRUB`: zero the sensitive state (43_eksblowfish.md rule R102). -/
  | scrub
  /-- `B64ENC n`: encode `n` bytes of `BBUF` (40_base64.md rule R64). -/
  | b64enc (n : Nat)
  /-- `B64DEC n`: decode `n` characters of `CBUF` (40_base64.md rule R65). -/
  | b64dec (n : Nat)
  deriving DecidableEq, Repr

end Sys2Proof
end

