-- ==== Sys2Proof/WellFormed.lean ====
section
/-!
DEFINITION. What makes a command expressible as a command word: the count `n` of a format-N command
is an unsigned 6-bit number (30_encoding.md rule R48). A count above a buffer's capacity is well
formed: it is a legal encoding whose execution fails (rule R48).
-/

namespace Sys2Proof

/-- Rule R48: `n` is a 6-bit count, 0 to 63; the other formats have no operand to check. -/
def Instr.wf : Instr → Bool
  | .init => true
  | .expandkey => true
  | .expandstateK => true
  | .expandstateS => true
  | .encblock => true
  | .ekssetup => true
  | .ecbmagic => true
  | .bcrypt => true
  | .scrub => true
  | .b64enc n => decide (n < 64)
  | .b64dec n => decide (n < 64)

/-- A command that has a command word. -/
abbrev Instr.WellFormed (i : Instr) : Prop := i.wf = true

end Sys2Proof
end

