-- ==== Sys2Proof/Word.lean ====
section
/-!
DEFINITION. The two bit-vector types of BFC (00_scope.md rules R5 and R6): the 32-bit word of all
cipher arithmetic and of the host port, and the byte of the key, salt, digest and text buffers.
-/

namespace Sys2Proof

/-- A 32-bit word, unsigned; `+` wraps modulo 2^32 (00_scope.md rule R6). -/
abbrev Word := BitVec 32

/-- A byte, bit 7 most significant (00_scope.md rule R6). -/
abbrev Byte := BitVec 8

end Sys2Proof
end

