-- ==== Sys2Proof/Decode.lean ====
section
/-!
DEFINITION. The command word (30_encoding.md rules R45 to R52): its fields, the total decoder that
rejects an illegal word by name, the encoder, and the match and mask table of rule R50 as data.
-/

namespace Sys2Proof

/-- Why a word is an illegal command (30_encoding.md rule R52). The machine acts alike on all three
(`ERR <- 8`); the names only say which part of the word is at fault. -/
inductive Illegal where
  /-- `rsv`, bits [31:16], is not zero. -/
  | reservedField
  /-- `op`, bits [7:0], is none of 0x01..0x08, 0x10, 0x11. -/
  | unknownOpcode
  /-- `arg`, bits [15:8], breaks the format of a known opcode. -/
  | operandField
  deriving DecidableEq, Repr

/-- Field `op`, bits [7:0] (rule R45). -/
def opField (c : Word) : BitVec 8 := c.extractLsb' 0 8

/-- Field `arg`, bits [15:8] (rule R45). -/
def argField (c : Word) : BitVec 8 := c.extractLsb' 8 8

/-- Field `rsv`, bits [31:16] (rule R45). -/
def rsvField (c : Word) : BitVec 16 := c.extractLsb' 16 16

/-- Format Z (rule R46): `arg` must be 0. -/
def formatZ (arg : BitVec 8) (i : Instr) : Except Illegal Instr :=
  if arg = 0 then .ok i else .error .operandField

/-- Format S (rule R47): `arg[7:1]` must be 0 and `arg[0]` selects the key or the salt. -/
def formatS (arg : BitVec 8) : Except Illegal Instr :=
  if arg.extractLsb' 1 7 = 0 then
    .ok (if arg.getLsbD 0 then .expandstateS else .expandstateK)
  else .error .operandField

/-- Format N (rule R48): `arg[7:6]` must be 0 and `arg[5:0]` is the unsigned count `n`. -/
def formatN (arg : BitVec 8) (mk : Nat → Instr) : Except Illegal Instr :=
  if arg.extractLsb' 6 2 = 0 then .ok (mk (arg.extractLsb' 0 6).toNat) else .error .operandField

/-- The row of rule R50 that an opcode and operand byte select. -/
def decodeFields (op arg : BitVec 8) : Except Illegal Instr :=
  if op = 0x01 then formatZ arg .init
  else if op = 0x02 then formatZ arg .expandkey
  else if op = 0x03 then formatS arg
  else if op = 0x04 then formatZ arg .encblock
  else if op = 0x05 then formatZ arg .ekssetup
  else if op = 0x06 then formatZ arg .ecbmagic
  else if op = 0x07 then formatZ arg .bcrypt
  else if op = 0x08 then formatZ arg .scrub
  else if op = 0x10 then formatN arg .b64enc
  else if op = 0x11 then formatN arg .b64dec
  else .error .unknownOpcode

/-- The decoder of rule R49, total on all 2^32 words; an illegal word (rule R52) is rejected by name. -/
def decode (c : Word) : Except Illegal Instr :=
  if rsvField c = 0 then decodeFields (opField c) (argField c) else .error .reservedField

/-- Opcode `op` of a command (rule R50). -/
def Instr.op : Instr → BitVec 8
  | .init => 0x01
  | .expandkey => 0x02
  | .expandstateK => 0x03
  | .expandstateS => 0x03
  | .encblock => 0x04
  | .ekssetup => 0x05
  | .ecbmagic => 0x06
  | .bcrypt => 0x07
  | .scrub => 0x08
  | .b64enc _ => 0x10
  | .b64dec _ => 0x11

/-- Operand byte `arg` of a command (rules R46 to R48): 0, the source bit, or the count `n`. -/
def Instr.arg : Instr → BitVec 8
  | .init => 0
  | .expandkey => 0
  | .expandstateK => 0
  | .expandstateS => 1
  | .encblock => 0
  | .ekssetup => 0
  | .ecbmagic => 0
  | .bcrypt => 0
  | .scrub => 0
  | .b64enc n => BitVec.ofNat 8 n
  | .b64dec n => BitVec.ofNat 8 n

/-- The command word of a well-formed command: `rsv`, `arg`, `op` from the most significant end, with
`rsv = 0` (rule R45). -/
def encode (i : Instr) : Word := (0#16 ++ i.arg ++ i.op : BitVec (16 + 8 + 8))

/-- One row of the table of rule R50: a word `c` selects the row when `c & mask = pattern` (the table's
"match"); `instr n` is the command of the row, with `n = c[13:8]`. -/
structure OpcodeRow where
  mnemonic : String
  pattern : Word
  mask : Word
  command : Nat → Instr

/-- The eleven rows of rule R50. The decoder does not read this table: it is the spec's other
statement of the encoding, against which the decoder is held. -/
def opcodeRows : List OpcodeRow :=
  [⟨"INIT", 0x00000001, 0xFFFFFFFF, fun _ => .init⟩,
   ⟨"EXPANDKEY", 0x00000002, 0xFFFFFFFF, fun _ => .expandkey⟩,
   ⟨"EXPANDSTATE.K", 0x00000003, 0xFFFFFFFF, fun _ => .expandstateK⟩,
   ⟨"EXPANDSTATE.S", 0x00000103, 0xFFFFFFFF, fun _ => .expandstateS⟩,
   ⟨"ENCBLOCK", 0x00000004, 0xFFFFFFFF, fun _ => .encblock⟩,
   ⟨"EKSSETUP", 0x00000005, 0xFFFFFFFF, fun _ => .ekssetup⟩,
   ⟨"ECBMAGIC", 0x00000006, 0xFFFFFFFF, fun _ => .ecbmagic⟩,
   ⟨"BCRYPT", 0x00000007, 0xFFFFFFFF, fun _ => .bcrypt⟩,
   ⟨"SCRUB", 0x00000008, 0xFFFFFFFF, fun _ => .scrub⟩,
   ⟨"B64ENC", 0x00000010, 0xFFFFC0FF, fun n => .b64enc n⟩,
   ⟨"B64DEC", 0x00000011, 0xFFFFC0FF, fun n => .b64dec n⟩]

/-- The operand `n = c[13:8]` of rule R49. -/
def nField (c : Word) : Nat := (c.extractLsb' 8 6).toNat

/-- Rule R50: `c` selects `r`. -/
abbrev OpcodeRow.Selects (r : OpcodeRow) (c : Word) : Prop := c &&& r.mask = r.pattern

/-- The command this decoder reads from a row's bits, as spec/opcode_table.json numbers them: BFC's
command is one 32-bit word, written whole to `CMD` (rule R45), so bit 0 of `w` is bit 0 of the word. -/
def decodeTableWord (nbits w : Nat) : Option Instr :=
  match decode (BitVec.ofNat 32 (w % 2 ^ nbits)) with
  | .ok i => some i
  | .error _ => none

end Sys2Proof
end

