-- ==== Sys2Proof/Machine/Bytes.lean ====
section
/-!
DEFINITION. Byte order and byte buffers: `BE32` and `BYTE` of 00_scope.md rule R6, the big-endian
packing of a byte buffer into host words (20_memory.md rule R33), and the write of a result's first
bytes that leaves the rest of a buffer alone (40_base64.md rules R64 and R65).
-/

namespace Sys2Proof.Machine

/-- `BE32(b0, b1, b2, b3)`: first byte most significant (rule R6). -/
def be32 (b0 b1 b2 b3 : Byte) : Word := (b0 ++ b1 ++ b2 ++ b3 : BitVec (8 + 8 + 8 + 8))

/-- `BYTE(w, k) = w[31-8k : 24-8k]` for `k` in 0..3 (rule R6). -/
def byteOf (w : Word) (k : Nat) : Byte := w.extractLsb' (24 - 8 * k) 8

/-- Word `i` of a byte buffer, `BE32(X[4i], X[4i+1], X[4i+2], X[4i+3])` (rule R33). -/
def bufWord {n : Nat} (X : Vector Byte n) (i : Nat) (h : 4 * i + 3 < n) : Word :=
  be32 X[4 * i] X[4 * i + 1] X[4 * i + 2] X[4 * i + 3]

/-- The write of word `i` of a byte buffer: `X[4i+k] <- BYTE(v, k)` for `k = 0..3` (20_memory.md rule
R32). All four bytes are replaced; there are no byte enables. -/
def setBufWord {n : Nat} (X : Vector Byte n) (i : Nat) (v : Word) (h : 4 * i + 3 < n) : Vector Byte n :=
  (((X.set (4 * i) (byteOf v 0)).set (4 * i + 1) (byteOf v 1)).set (4 * i + 2) (byteOf v 2)).set
    (4 * i + 3) (byteOf v 3)

/-- The buffer with its first bytes replaced by `bs` and the others kept (rules R64 and R65). -/
def writeFront {n : Nat} (X : Vector Byte n) (bs : List Byte) : Vector Byte n :=
  Vector.ofFn fun i => bs.getD i.val X[i]

end Sys2Proof.Machine
end

