-- ==== Sys2Proof/Machine/Codec.lean ====
section
/-!
DEFINITION. The pure functions of the Base64 unit: the alphabet and its inverse (40_base64.md rules
R60 and R61) and `Enc` and `Dec` in the form by groups of rules R62 and R63. The form by bit strings of
the same rules stands in Reference.lean.
-/

namespace Sys2Proof.Machine

/-- `ALPHA[v]`, the ASCII code of the character of a 6-bit value, by the table of rule R60. -/
def alpha (v : BitVec 6) : Byte :=
  if v.toNat = 0 then 0x2E
  else if v.toNat = 1 then 0x2F
  else if v.toNat ≤ 27 then BitVec.ofNat 8 (0x41 + (v.toNat - 2))
  else if v.toNat ≤ 53 then BitVec.ofNat 8 (0x61 + (v.toNat - 28))
  else BitVec.ofNat 8 (0x30 + (v.toNat - 54))

/-- `CharVal(c)` of rule R61, defined on all 256 codes. -/
def charVal (c : Byte) : Option (BitVec 6) :=
  if c.toNat = 0x2E then some 0
  else if c.toNat = 0x2F then some 1
  else if 0x30 ≤ c.toNat ∧ c.toNat ≤ 0x39 then some (BitVec.ofNat 6 (54 + (c.toNat - 0x30)))
  else if 0x41 ≤ c.toNat ∧ c.toNat ≤ 0x5A then some (BitVec.ofNat 6 (2 + (c.toNat - 0x41)))
  else if 0x61 ≤ c.toNat ∧ c.toNat ≤ 0x7A then some (BitVec.ofNat 6 (28 + (c.toNat - 0x61)))
  else none

/-- The value of a group's first character: `b0 >> 2` (rule R62). -/
def sextet0 (b0 : Byte) : BitVec 6 := b0.extractLsb' 2 6

/-- The value of a group's second character: `((b0 & 0x03) << 4) | (b1 >> 4)` (rule R62). -/
def sextet1 (b0 b1 : Byte) : BitVec 6 := (b0.extractLsb' 0 2 ++ b1.extractLsb' 4 4 : BitVec (2 + 4))

/-- The value of a group's third character: `((b1 & 0x0F) << 2) | (b2 >> 6)` (rule R62). -/
def sextet2 (b1 b2 : Byte) : BitVec 6 := (b1.extractLsb' 0 4 ++ b2.extractLsb' 6 2 : BitVec (4 + 2))

/-- The value of a group's fourth character: `b2 & 0x3F` (rule R62). -/
def sextet3 (b2 : Byte) : BitVec 6 := b2.extractLsb' 0 6

/-- The 6-bit values of `Enc` by groups of three bytes (rule R62); a missing byte of the last group is
taken as 0, and only the characters that carry data are emitted. -/
def encValues : List Byte → List (BitVec 6)
  | [] => []
  | [b0] => [sextet0 b0, sextet1 b0 0]
  | [b0, b1] => [sextet0 b0, sextet1 b0 b1, sextet2 b1 0]
  | b0 :: b1 :: b2 :: rest =>
    sextet0 b0 :: sextet1 b0 b1 :: sextet2 b1 b2 :: sextet3 b2 :: encValues rest

/-- `Enc(b[0..n-1])` of rule R62. -/
def enc (bs : List Byte) : List Byte := (encValues bs).map alpha

/-- The number of characters of `n` bytes, `(4n + 2) div 3` (rule R62). -/
def encLen (n : Nat) : Nat := (4 * n + 2) / 3

/-- A group's first byte: `((v0 << 2) | (v1 >> 4)) & 0xFF` (rule R63). -/
def octet0 (v0 v1 : BitVec 6) : Byte := (v0 ++ v1.extractLsb' 4 2 : BitVec (6 + 2))

/-- A group's second byte: `((v1 << 4) | (v2 >> 2)) & 0xFF` (rule R63). -/
def octet1 (v1 v2 : BitVec 6) : Byte := (v1.extractLsb' 0 4 ++ v2.extractLsb' 2 4 : BitVec (4 + 4))

/-- A group's third byte: `((v2 << 6) | v3) & 0xFF` (rule R63). -/
def octet2 (v2 v3 : BitVec 6) : Byte := (v2.extractLsb' 0 2 ++ v3 : BitVec (2 + 6))

/-- The bytes of `Dec` by groups of four values (rule R63); the surplus bits of a last group of two or
three values are ignored. A last group of one value holds no byte; `dec` refuses that length first. -/
def decBytes : List (BitVec 6) → List Byte
  | [] => []
  | [_] => []
  | [v0, v1] => [octet0 v0 v1]
  | [v0, v1, v2] => [octet0 v0 v1, octet1 v1 v2]
  | v0 :: v1 :: v2 :: v3 :: rest => octet0 v0 v1 :: octet1 v1 v2 :: octet2 v2 v3 :: decBytes rest

/-- The values of a list of characters, `none` when one is outside the alphabet (rule R63). -/
def charVals : List Byte → Option (List (BitVec 6))
  | [] => some []
  | c :: rest =>
    match charVal c, charVals rest with
    | some v, some vs => some (v :: vs)
    | _, _ => none

/-- `Dec(c[0..n-1])` of rule R63; `none` is `MalformedEncoding`. -/
def dec (cs : List Byte) : Option (List Byte) :=
  if cs.length % 4 = 1 then none else (charVals cs).map decBytes

/-- The number of bytes of `n` characters, `(3n) div 4` (rule R63). -/
def decLen (n : Nat) : Nat := 3 * n / 4

end Sys2Proof.Machine
end

