-- ==== Sys2Proof/Machine/Cipher.lean ====
section
/-!
DEFINITION. The pure functions of the Blowfish unit: F, block encryption, the key stream and the
expansion (42_blowfish_core.md rules R80 to R83), the Eksblowfish setup (43_eksblowfish.md rule R95)
and the magic encryption (rules R97 and R98). They read and write no state (00_scope.md rule R7).
The three long ones are marked irreducible, so that no proof unfolds them unasked; their bodies are
plain definitions that the kernel evaluates.
-/

namespace Sys2Proof.Machine

/-- The pair `(P, S)` of 00_scope.md rule R7, the whole of the subkeys. -/
structure Subkeys where
  P : Vector Word 18
  S : Vector (Vector Word 256) 4
  deriving DecidableEq, Repr

/-- A 64-bit block as its left and right words (10_state.md rule R18). -/
abbrev Block := Word × Word

/-- The F-function of rule R80: add, then xor, then add, with `a` the most significant byte of `x`. -/
def fFunction (S : Vector (Vector Word 256) 4) (x : Word) : Word :=
  let a : Byte := byteOf x 0
  let b : Byte := byteOf x 1
  let c : Byte := byteOf x 2
  let d : Byte := byteOf x 3
  ((S[0][a.toNat]'a.isLt + S[1][b.toNat]'b.isLt) ^^^ S[2][c.toNat]'c.isLt) + S[3][d.toNat]'d.isLt

/-- One of the sixteen rounds of rule R81: `l ^= P[i]`, `r ^= F(S, l)`, swap. -/
def feistelRound (k : Subkeys) (x : Block) (i : Fin 16) : Block :=
  let l := x.1 ^^^ k.P[i.val]
  let r := x.2 ^^^ fFunction k.S l
  (r, l)

/-- `EncryptBlock(P, S, l, r)` of rule R81: sixteen rounds, the sixteenth swap undone, then `P[16]` into
the right word and `P[17]` into the left. -/
def encryptBlock (k : Subkeys) (x : Block) : Block :=
  let y := (List.finRange 16).foldl (feistelRound k) x
  let l := y.2
  let r := y.1
  (l ^^^ k.P[17], r ^^^ k.P[16])

/-- Byte `j` of a buffer. The commands read a buffer only below its length, where the default is not
reached (log entry 9). -/
def bufByte {n : Nat} (buf : Vector Byte n) (j : Nat) : Byte := buf[j]?.getD 0

/-- `StreamWord(buf, len, j)` of rule R82: four bytes read cyclically, first byte most significant, and
the next position. Its domain is `1 <= len`, `j < len`. -/
def streamWord {n : Nat} (buf : Vector Byte n) (len j : Nat) : Word × Nat :=
  (be32 (bufByte buf j) (bufByte buf ((j + 1) % len)) (bufByte buf ((j + 2) % len))
      (bufByte buf ((j + 3) % len)),
    (j + 4) % len)

/-- One turn of phase 1 of rule R83: `P[i] ^= w`, with the stream position carried on. -/
def mixKeyWord {n : Nat} (key : Vector Byte n) (klen : Nat) (x : Vector Word 18 × Nat) (i : Fin 18) :
    Vector Word 18 × Nat :=
  let w := streamWord key klen x.2
  (x.1.set i.val (x.1[i.val] ^^^ w.1), w.2)

/-- Phase 1 of rule R83: 18 key-stream words into `P`, the stream starting at position 0. -/
def mixKey {n : Nat} (key : Vector Byte n) (klen : Nat) (P : Vector Word 18) : Vector Word 18 :=
  ((List.finRange 18).foldl (mixKeyWord key klen) (P, 0)).1

/-- A pair of subkey words that one encryption of phase 2 replaces (rule R83): `P[2i]`, `P[2i+1]`, or
`S[b][2j]`, `S[b][2j+1]`. -/
inductive Slot where
  | p (i : Fin 9)
  | s (b : Fin 4) (j : Fin 128)
  deriving DecidableEq, Repr

/-- The 521 pairs in the order of rule R83: the P-array, then box 0 to box 3. -/
def slots : List Slot :=
  (List.finRange 9).map Slot.p ++
    (List.finRange 4).flatMap fun b => (List.finRange 128).map fun j => Slot.s b j

/-- The subkeys with one pair replaced by a block (rule R83). -/
def Subkeys.put (k : Subkeys) (slot : Slot) (y : Block) : Subkeys :=
  match slot with
  | .p i => { k with P := (k.P.set (2 * i.val) y.1).set (2 * i.val + 1) y.2 }
  | .s b j =>
    { k with S := k.S.set b.val ((k.S[b.val].set (2 * j.val) y.1).set (2 * j.val + 1) y.2) }

/-- The running values of phase 2 (rule R83): the subkeys as they are, the chained block `(l, r)` and
the data position `d`. They exist only inside one expansion (10_state.md rule R25). -/
structure Chain where
  keys : Subkeys
  block : Block
  pos : Nat

/-- The input of the next encryption of phase 2 and the data position after it: the chained block xored
with the next two words of the data stream, if there is data (rule R83). -/
def mixData (data : Option (Vector Byte 16)) (c : Chain) : Block × Nat :=
  match data with
  | none => (c.block, c.pos)
  | some salt =>
    let w := streamWord salt 16 c.pos
    let v := streamWord salt 16 w.2
    ((c.block.1 ^^^ w.1, c.block.2 ^^^ v.1), v.2)

/-- One encryption of phase 2 (rule R83), with the subkeys as they are at that moment. -/
def expandSlot (data : Option (Vector Byte 16)) (c : Chain) (slot : Slot) : Chain :=
  let x := mixData data c
  let y := encryptBlock c.keys x.1
  { keys := c.keys.put slot y, block := y, pos := x.2 }

/-- The state in which phase 2 begins: the mixed P-array, the zero block, data position 0 (rule R83). -/
def expandStart {n : Nat} (k : Subkeys) (key : Vector Byte n) (klen : Nat) : Chain :=
  { keys := { k with P := mixKey key klen k.P }, block := (0, 0), pos := 0 }

/-- `Expand(P, S, key, klen, data)` of rule R83; its domain is `klen >= 1`. -/
@[irreducible] def expand {n : Nat} (k : Subkeys) (key : Vector Byte n) (klen : Nat) (data : Option (Vector Byte 16)) :
    Subkeys :=
  (slots.foldl (expandSlot data) (expandStart k key klen)).keys

/-- The initial subkeys `(PI_P, PI_S)` (41_init_constants.md rules R71 to R75). -/
def piSubkeys : Subkeys := { P := piP, S := piS }

/-- One iteration of step 3 of rule R95: first the key, then the salt as key. -/
def eksIteration {n : Nat} (key : Vector Byte n) (klen : Nat) (salt : Vector Byte 16) (k : Subkeys) : Subkeys :=
  expand (expand k key klen none) salt 16 none

/-- `EksSetup(key, klen, salt, c)` of rule R95: constants, salted expansion, then `2^c` iterations. -/
@[irreducible] def eksSetup {n : Nat} (key : Vector Byte n) (klen : Nat) (salt : Vector Byte 16) (c : Nat) : Subkeys :=
  (eksIteration key klen salt)^[2 ^ c] (expand piSubkeys key klen (some salt))

/-- `MAGIC[0..23]`, the ASCII bytes of "OrpheanBeholderScryDoubt" (rule R97). -/
def magic : Vector Byte 24 :=
  #v[0x4F, 0x72, 0x70, 0x68, 0x65, 0x61, 0x6E, 0x42, 0x65, 0x68, 0x6F, 0x6C,
     0x64, 0x65, 0x72, 0x53, 0x63, 0x72, 0x79, 0x44, 0x6F, 0x75, 0x62, 0x74]

/-- The three blocks `(MW[2b], MW[2b+1])` of the magic plaintext, loaded big-endian (rule R97). -/
def magicBlocks : Vector Block 3 :=
  #v[(bufWord magic 0 (by decide), bufWord magic 1 (by decide)),
     (bufWord magic 2 (by decide), bufWord magic 3 (by decide)),
     (bufWord magic 4 (by decide), bufWord magic 5 (by decide))]

/-- One pass of rule R98: each block encrypted independently with the same subkeys. -/
def ecbPass (k : Subkeys) (ct : Vector Block 3) : Vector Block 3 := ct.map (encryptBlock k)

/-- Word `i` of three blocks, `ct[i]` of rule R98. -/
def blockWord (ct : Vector Block 3) (i : Fin 6) : Word :=
  if i.val % 2 = 0 then (ct[i.val / 2]).1 else (ct[i.val / 2]).2

/-- The big-endian store of rule R98: `out[4i + k] = BYTE(ct[i], k)`. -/
def blockBytes (ct : Vector Block 3) : Vector Byte 24 :=
  Vector.ofFn fun q => byteOf (blockWord ct ⟨q.val / 4, by omega⟩) (q.val % 4)

/-- `EcbMagic(P, S)` of rule R98: 64 passes over the magic plaintext. -/
@[irreducible] def ecbMagic (k : Subkeys) : Vector Byte 24 :=
  blockBytes ((ecbPass k)^[Config.ecbPasses] magicBlocks)

end Sys2Proof.Machine
end

