-- ==== Sys2Proof/Machine/Flags.lean ====
section
/-!
DEFINITION. `ERR`, the only flag-like state of BFC (10_state.md rule R22): the result codes of
60_exceptions.md rule R111. There are no carry, zero, overflow or sign flags.
-/

namespace Sys2Proof.Machine

/-- The error names of rule R111. `malformedRecord` and `unsupportedVersion` are reserved for host
software: their numbers exist and BFC never raises them. -/
inductive ErrorKind where
  | invalidCost
  | invalidSalt
  | invalidKey
  | malformedEncoding
  | malformedRecord
  | unsupportedVersion
  | bufferTooSmall
  | illegalCommand
  deriving DecidableEq, Repr

/-- `code(E)` of rule R111. -/
def ErrorKind.code : ErrorKind → BitVec 4
  | .invalidCost => 1
  | .invalidSalt => 2
  | .invalidKey => 3
  | .malformedEncoding => 4
  | .malformedRecord => 5
  | .unsupportedVersion => 6
  | .bufferTooSmall => 7
  | .illegalCommand => 8

/-- The code of a command that completed (rules R111 and R117). -/
def successCode : BitVec 4 := 0

end Sys2Proof.Machine
end

