-- ==== Sys2Proof/Machine/State.lean ====
section
/-!
DEFINITION. The state of one BFC instance: the 15 elements of 10_state.md rule R10, and two fields of
the model for the host's side of the port (the events issued, the words returned); the stops a step
can end in; and the state after reset (10_state.md rule R28).
-/

namespace Sys2Proof.Machine

/-- One host event (00_scope.md rule R9). An access carries its byte offset and its width in bits as
the host issued it: 20_memory.md rule R35 gives a meaning only to aligned 32-bit accesses inside
0x000..0xFFF, and the port refuses the others by name. -/
inductive HostEvent where
  /-- `Reset` (70_reset_and_hazards.md rule R130). -/
  | reset
  /-- `HostRead(off)` of `width` bits (20_memory.md rule R31). -/
  | read (off width : Nat)
  /-- `HostWrite(off, v)` of `width` bits (20_memory.md rule R32). -/
  | write (off width : Nat) (v : Word)
  deriving DecidableEq, Repr

/-- The architectural state of BFC (10_state.md rule R10) and the host's side of the port. Names are
the spec's. BFC masters no memory (00_scope.md rule R8), so there is no list of memory cells. -/
@[ext]
structure State where
  /-- The P-array (rule R11). -/
  P : Vector Word 18
  /-- The four S-boxes (rule R12). -/
  S : Vector (Vector Word 256) 4
  /-- The key buffer, write-only to the host (rule R13). -/
  KEY : Vector Byte 72
  /-- The key length the host intends, all 32 bits kept (rule R14). -/
  KEYLEN : Word
  /-- The salt (rule R15). -/
  SALT : Vector Byte 16
  /-- The salt length the host presents, all 32 bits kept (rule R16). -/
  SALTLEN : Word
  /-- The cost, all 32 bits kept (rule R17). -/
  COST : Word
  /-- The left data word (rule R18). -/
  L : Word
  /-- The right data word (rule R18). -/
  R : Word
  /-- The digest, read-only to the host (rule R19). -/
  DIGEST : Vector Byte 24
  /-- The binary side of the Base64 unit (rule R20). -/
  BBUF : Vector Byte 24
  /-- Bytes the last successful decode produced (rule R20). -/
  BLEN : BitVec 5
  /-- The text side of the Base64 unit (rule R21). -/
  CBUF : Vector Byte 32
  /-- Characters the last successful encode produced (rule R21). -/
  CLEN : BitVec 6
  /-- The result code of the latest command (rule R22). -/
  ERR : BitVec 4
  /-- MODEL's own (DESIGN CHOICE, log entry 1): the events the host has issued and BFC has not yet
  accepted, oldest first (20_memory.md rule R39). -/
  inbox : List HostEvent
  /-- MODEL's own (DESIGN CHOICE, log entry 2): the words `HostRead` has returned, oldest first
  (00_scope.md rule R9). -/
  replies : List Word
  deriving DecidableEq, Repr

/-- Faults: none. 60_exceptions.md rule R110: there are no asynchronous errors, no imprecise errors and
no machine checks, and a command's error is a step with a defined next state. So nothing raises a
fault, which is what the spec says (log entry 12). -/
inductive Fault where
  deriving DecidableEq, Repr

/-- Refusals: the host accesses to which 20_memory.md rule R35 gives no step, and the name the
dispatcher keeps for a command without a meaning. -/
inductive Refusal where
  /-- No meaning for the command of this mnemonic. Raised by no arm of `exec`: all eleven commands are
  modelled. Safe. -/
  | notModelled (mnemonic : String)
  /-- Raised by the host port on an access at an offset outside 0x000..0xFFF (rule R35). Safe: the model
  gives the access no step, so no claim can be made about it. -/
  | outsideWindow (off : Nat)
  /-- Raised by the host port on an access inside the window whose offset is not a multiple of 4
  (rule R35). Safe, for the same reason. -/
  | misaligned (off : Nat)
  /-- Raised by the host port on an aligned access inside the window that is not 32 bits wide
  (rule R35). Safe, for the same reason. -/
  | notWordWide (width : Nat)
  deriving DecidableEq, Repr

/-- The machine right after reset: every element of state is zero (10_state.md rule R28,
70_reset_and_hazards.md rule R131). No host event has been issued and no word returned (log entries 1
and 2). -/
def State.reset : State where
  P := Vector.replicate 18 0
  S := Vector.replicate 4 (Vector.replicate 256 0)
  KEY := Vector.replicate 72 0
  KEYLEN := 0
  SALT := Vector.replicate 16 0
  SALTLEN := 0
  COST := 0
  L := 0
  R := 0
  DIGEST := Vector.replicate 24 0
  BBUF := Vector.replicate 24 0
  BLEN := 0
  CBUF := Vector.replicate 32 0
  CLEN := 0
  ERR := 0
  inbox := []
  replies := []

end Sys2Proof.Machine
end

