-- ==== Sys2Proof/Machine/Ops.lean ====
section
/-!
DEFINITION. The named operations over the state: one update per register or register group, `Scrub()`
(43_eksblowfish.md rule R101), and the error return `raise` (60_exceptions.md rule R113), which is BFC's
counterpart of taking an exception. There is no trap entry and no return from one (rules R120, R121).
-/

namespace Sys2Proof.Machine

/-- The two functional units of 00_scope.md rule R2; an illegal word belongs to neither
(60_exceptions.md rule R116). -/
inductive FunctionalUnit where
  | blowfish
  | base64
  | neither
  deriving DecidableEq, Repr

/-- The subkeys `(P, S)` of a state (00_scope.md rule R7). -/
def State.subkeys (s : State) : Subkeys := { P := s.P, S := s.S }

/-- `(P, S) <- k`. -/
def State.setSubkeys (s : State) (k : Subkeys) : State := { s with P := k.P, S := k.S }

/-- `KEY <- v`. -/
def State.setKey (s : State) (v : Vector Byte 72) : State := { s with KEY := v }

/-- `KEYLEN <- v`. -/
def State.setKeylen (s : State) (v : Word) : State := { s with KEYLEN := v }

/-- `SALT <- v`. -/
def State.setSalt (s : State) (v : Vector Byte 16) : State := { s with SALT := v }

/-- `SALTLEN <- v`. -/
def State.setSaltlen (s : State) (v : Word) : State := { s with SALTLEN := v }

/-- `COST <- v`. -/
def State.setCost (s : State) (v : Word) : State := { s with COST := v }

/-- `L <- v`. -/
def State.setL (s : State) (v : Word) : State := { s with L := v }

/-- `R <- v`. -/
def State.setR (s : State) (v : Word) : State := { s with R := v }

/-- `(L, R) <- x`. -/
def State.setBlock (s : State) (x : Block) : State := { s with L := x.1, R := x.2 }

/-- `DIGEST <- v`. -/
def State.setDigest (s : State) (v : Vector Byte 24) : State := { s with DIGEST := v }

/-- `BBUF <- v`. -/
def State.setBbuf (s : State) (v : Vector Byte 24) : State := { s with BBUF := v }

/-- `CBUF <- v`. -/
def State.setCbuf (s : State) (v : Vector Byte 32) : State := { s with CBUF := v }

/-- `CBUF[0..m-1] <- cs` and `CLEN <- m`, the characters from `m` on kept (40_base64.md rule R64). -/
def State.setText (s : State) (cs : List Byte) (m : Nat) : State :=
  { s with CBUF := writeFront s.CBUF cs, CLEN := BitVec.ofNat 6 m }

/-- `BBUF[0..m-1] <- bs` and `BLEN <- m`, the bytes from `m` on kept (40_base64.md rule R65). -/
def State.setBinary (s : State) (bs : List Byte) (m : Nat) : State :=
  { s with BBUF := writeFront s.BBUF bs, BLEN := BitVec.ofNat 5 m }

/-- `ERR <- v`. -/
def State.setErr (s : State) (v : BitVec 4) : State := { s with ERR := v }

/-- The host's remaining events (log entry 1). -/
def State.setInbox (s : State) (v : List HostEvent) : State := { s with inbox := v }

/-- A word returned to the host, after those returned before it (log entry 2). -/
def State.reply (s : State) (w : Word) : State := { s with replies := s.replies ++ [w] }

/-- The subkeys with every word zero. -/
def zeroSubkeys : Subkeys :=
  { P := Vector.replicate 18 0, S := Vector.replicate 4 (Vector.replicate 256 0) }

/-- `Scrub()` of 43_eksblowfish.md rule R101: `P`, `S`, `KEY` zero, `KEYLEN` 0, and nothing else. -/
def State.scrub (s : State) : State :=
  ((s.setSubkeys zeroSubkeys).setKey (Vector.replicate 72 0)).setKeylen 0

/-- `ERR <- 0`, the last action of a command that completes (60_exceptions.md rule R117). -/
def State.succeed (s : State) : State := s.setErr successCode

/-- `raise E` of 60_exceptions.md rule R113: a Blowfish-unit command scrubs (rule R116), then
`ERR <- code(E)`; nothing else is written. -/
def State.raise (s : State) (u : FunctionalUnit) (e : ErrorKind) : State :=
  match u with
  | .blowfish => s.scrub.setErr e.code
  | .base64 => s.setErr e.code
  | .neither => s.setErr e.code

/-- The end of a command of unit `u`: the error return if a check found a cause, else the command's
effect and `ERR <- 0`. Every check precedes every change (60_exceptions.md rule R115), so an error is
raised on the state before the command, and the effect is not computed. -/
def complete (u : FunctionalUnit) (cause : Option ErrorKind) (effect : State → State) (s : State) :
    Host.Outcome State Fault Refusal :=
  match cause with
  | some e => .next (s.raise u e)
  | none => .next (effect s).succeed

/-- The state after `Reset` (70_reset_and_hazards.md rules R130 and R131): all 15 elements of BFC zero.
The host's events still to come and the words it already holds are not BFC's (log entry 5). -/
def State.hostReset (s : State) : State :=
  { State.reset with inbox := s.inbox, replies := s.replies }

end Sys2Proof.Machine
end

