-- ==== Sys2Proof/Machine/Operands.lean ====
section
/-!
DEFINITION. The operands of the commands and the checks on them: the effective key length (10_state.md
rule R14), the checks of cost, salt and key in the order of 60_exceptions.md rule R114, and the prefixes
of the Base64 buffers that a count selects (40_base64.md rules R64 and R65).
-/

namespace Sys2Proof.Machine

/-- `klen = min(KEYLEN, 72)` (10_state.md rule R14). -/
def State.klen (s : State) : Nat := min s.KEYLEN.toNat Config.keyMax

/-- The cause `InvalidCost`: `COST < 4` or `COST > 31`, unsigned (rule R111). -/
def State.badCost (s : State) : Bool :=
  decide (s.COST.toNat < Config.costMin) || decide (Config.costMax < s.COST.toNat)

/-- The cause `InvalidSalt`: `SALTLEN /= 16` (rule R111). -/
def State.badSalt (s : State) : Bool := decide (s.SALTLEN.toNat ≠ Config.saltBytes)

/-- The cause `InvalidKey`: `KEYLEN = 0` (rule R111). -/
def State.badKey (s : State) : Bool := decide (s.KEYLEN.toNat = 0)

/-- The check of a command that uses the key only (42_blowfish_core.md rule R86). -/
def State.keyCause (s : State) : Option ErrorKind :=
  if s.badKey then some .invalidKey else none

/-- The check of a command that uses the salt only (42_blowfish_core.md rule R87). -/
def State.saltCause (s : State) : Option ErrorKind :=
  if s.badSalt then some .invalidSalt else none

/-- The checks of a command that uses salt and key: salt before key (42_blowfish_core.md rule R85). -/
def State.saltKeyCause (s : State) : Option ErrorKind :=
  if s.badSalt then some .invalidSalt else s.keyCause

/-- The checks of the composite commands: cost, then salt, then key (43_eksblowfish.md rule R96). -/
def State.setupCause (s : State) : Option ErrorKind :=
  if s.badCost then some .invalidCost else s.saltKeyCause

/-- `BBUF[0..n-1]` (40_base64.md rule R64). -/
def State.binaryFront (s : State) (n : Nat) : List Byte := s.BBUF.toList.take n

/-- `CBUF[0..n-1]` (40_base64.md rule R65). -/
def State.textFront (s : State) (n : Nat) : List Byte := s.CBUF.toList.take n

/-- The check of `B64ENC n` (40_base64.md rule R64). -/
def encCause (n : Nat) : Option ErrorKind :=
  if Config.binaryMax < n then some .bufferTooSmall else none

/-- The checks of `B64DEC n`: the length before the characters (40_base64.md rule R65). -/
def State.decCause (s : State) (n : Nat) : Option ErrorKind :=
  if Config.textMax < n then some .bufferTooSmall
  else if dec (s.textFront n) = none then some .malformedEncoding
  else none

end Sys2Proof.Machine
end

