-- ==== Sys2Proof/Machine/Base64.lean ====
section
/-!
DEFINITION. The commands of the Base64 unit: `B64ENC n` and `B64DEC n` (40_base64.md rules R64, R65).
-/

namespace Sys2Proof.Machine

/-- `B64ENC n` (rule R64): `CBUF[0..m-1]` and `CLEN <- m`; the characters from `m` on keep their values. -/
def execB64enc (n : Nat) (s : State) : Host.Outcome State Fault Refusal :=
  complete .base64 (encCause n) (fun s => s.setText (enc (s.binaryFront n)) (encLen n)) s

/-- `B64DEC n` (rule R65): all `n` characters are checked before any byte is written; then
`BBUF[0..m-1]` and `BLEN <- m`; the bytes from `m` on keep their values. -/
def execB64dec (n : Nat) (s : State) : Host.Outcome State Fault Refusal :=
  complete .base64 (s.decCause n)
    (fun s => s.setBinary ((dec (s.textFront n)).getD []) (decLen n)) s

end Sys2Proof.Machine
end

