-- ==== Sys2Proof/Machine/Blowfish.lean ====
section
/-!
DEFINITION. The primitive commands of the Blowfish unit: `INIT` (41_init_constants.md rule R70),
`EXPANDKEY`, `EXPANDSTATE.K`, `EXPANDSTATE.S`, `ENCBLOCK` (42_blowfish_core.md rules R84 to R87).
-/

namespace Sys2Proof.Machine

/-- `INIT` (rule R70): the initial constants into `P` and `S`; it cannot fail. -/
def execInit (s : State) : Host.Outcome State Fault Refusal :=
  complete .blowfish none (fun s => s.setSubkeys piSubkeys) s

/-- `EXPANDKEY` (rule R85): salted expansion of the current subkeys with the key. -/
def execExpandkey (s : State) : Host.Outcome State Fault Refusal :=
  complete .blowfish s.saltKeyCause
    (fun s => s.setSubkeys (expand s.subkeys s.KEY s.klen (some s.SALT))) s

/-- `EXPANDSTATE.K` (rule R86): unsalted expansion with the key. -/
def execExpandstateK (s : State) : Host.Outcome State Fault Refusal :=
  complete .blowfish s.keyCause (fun s => s.setSubkeys (expand s.subkeys s.KEY s.klen none)) s

/-- `EXPANDSTATE.S` (rule R87): unsalted expansion with the salt as a 16-byte key. -/
def execExpandstateS (s : State) : Host.Outcome State Fault Refusal :=
  complete .blowfish s.saltCause
    (fun s => s.setSubkeys (expand s.subkeys s.SALT Config.saltBytes none)) s

/-- `ENCBLOCK` (rule R84): the old `L`, `R` are read, then both are replaced; it cannot fail. -/
def execEncblock (s : State) : Host.Outcome State Fault Refusal :=
  complete .blowfish none (fun s => s.setBlock (encryptBlock s.subkeys (s.L, s.R))) s

end Sys2Proof.Machine
end

