-- ==== Sys2Proof/Machine/Eksblowfish.lean ====
section
/-!
DEFINITION. The composite commands of the Blowfish unit and the scrub: `EKSSETUP`, `ECBMAGIC`, `BCRYPT`,
`SCRUB` (43_eksblowfish.md rules R96, R99, R100, R102).
-/

namespace Sys2Proof.Machine

/-- The subkeys that `KEY`, `SALT` and `COST` derive (rule R95); the old `P`, `S` are not read. -/
def State.derivedSubkeys (s : State) : Subkeys := eksSetup s.KEY s.klen s.SALT s.COST.toNat

/-- `EKSSETUP` (rule R96): derive the subkeys; no scrub on success. -/
def execEkssetup (s : State) : Host.Outcome State Fault Refusal :=
  complete .blowfish s.setupCause (fun s => s.setSubkeys s.derivedSubkeys) s

/-- `ECBMAGIC` (rule R99): the digest from the current subkeys; it cannot fail. -/
def execEcbmagic (s : State) : Host.Outcome State Fault Refusal :=
  complete .blowfish none (fun s => s.setDigest (ecbMagic s.subkeys)) s

/-- `BCRYPT` (rule R100): the digest from subkeys that no register ever holds, then `Scrub()`. -/
def execBcrypt (s : State) : Host.Outcome State Fault Refusal :=
  complete .blowfish s.setupCause (fun s => (s.setDigest (ecbMagic s.derivedSubkeys)).scrub) s

/-- `SCRUB` (rule R102): `Scrub()` as a command; it cannot fail. -/
def execScrub (s : State) : Host.Outcome State Fault Refusal :=
  complete .blowfish none (fun s => s.scrub) s

end Sys2Proof.Machine
end

