-- ==== Sys2Proof/Machine/Dispatch.lean ====
section
/-!
DEFINITION. The execution of a decoded command (30_encoding.md rule R49): one arm per command.
-/

namespace Sys2Proof.Machine

def exec (i : Instr) (s : State) : Host.Outcome State Fault Refusal :=
  match i with
  | .init => Sys2Proof.Machine.execInit s
  | .expandkey => Sys2Proof.Machine.execExpandkey s
  | .expandstateK => Sys2Proof.Machine.execExpandstateK s
  | .expandstateS => Sys2Proof.Machine.execExpandstateS s
  | .encblock => Sys2Proof.Machine.execEncblock s
  | .ekssetup => Sys2Proof.Machine.execEkssetup s
  | .ecbmagic => Sys2Proof.Machine.execEcbmagic s
  | .bcrypt => Sys2Proof.Machine.execBcrypt s
  | .scrub => Sys2Proof.Machine.execScrub s
  | .b64enc n => Sys2Proof.Machine.execB64enc n s
  | .b64dec n => Sys2Proof.Machine.execB64dec n s

end Sys2Proof.Machine
end

