-- ==== Sys2Proof/Machine/HostPort.lean ====
section
/-!
DEFINITION. The host port: the register map of 20_memory.md rule R30, `HostRead` and `HostWrite` (rules
R31 and R32), `Exec(c)` of 30_encoding.md rule R49 as the effect of a write to `CMD`, and the acceptance
of one host event.
-/

namespace Sys2Proof.Machine

/-- The assigned registers of the map of rule R30. -/
inductive HostReg where
  | cmd
  | err
  | cost
  | keylen
  | saltlen
  | left
  | right
  | blen
  | clen
  | saltw (i : Fin 4)
  | digw (i : Fin 6)
  | keyw (i : Fin 18)
  | bbufw (i : Fin 6)
  | cbufw (i : Fin 8)
  deriving DecidableEq, Repr

/-- The byte offset of a register (rule R30). -/
def HostReg.offset : HostReg → Nat
  | .cmd => 0x000
  | .err => 0x004
  | .cost => 0x008
  | .keylen => 0x00C
  | .saltlen => 0x010
  | .left => 0x014
  | .right => 0x018
  | .blen => 0x01C
  | .clen => 0x020
  | .saltw i => 0x040 + 4 * i.val
  | .digw i => 0x050 + 4 * i.val
  | .keyw i => 0x080 + 4 * i.val
  | .bbufw i => 0x100 + 4 * i.val
  | .cbufw i => 0x120 + 4 * i.val

/-- Every assigned register of the map (rule R30). -/
def hostRegs : List HostReg :=
  [[.cmd, .err, .cost, .keylen, .saltlen, .left, .right, .blen, .clen],
    (List.finRange 4).map HostReg.saltw, (List.finRange 6).map HostReg.digw, (List.finRange 18).map HostReg.keyw,
    (List.finRange 6).map HostReg.bbufw, (List.finRange 8).map HostReg.cbufw].flatten

/-- The register at an offset; `none` at an unassigned offset (rule R30). -/
def regAt (off : Nat) : Option HostReg := hostRegs.find? fun q => q.offset == off

/-- The word a register reads as (rule R31): narrow registers zero-extended (rule R34), `CMD` and `KEYW`
as 0 (rule R36). -/
def readReg (r : HostReg) (s : State) : Word :=
  match r with
  | .cmd => 0
  | .err => s.ERR.setWidth 32
  | .cost => s.COST
  | .keylen => s.KEYLEN
  | .saltlen => s.SALTLEN
  | .left => s.L
  | .right => s.R
  | .blen => s.BLEN.setWidth 32
  | .clen => s.CLEN.setWidth 32
  | .saltw i => bufWord s.SALT i.val (by omega)
  | .digw i => bufWord s.DIGEST i.val (by omega)
  | .keyw _ => 0
  | .bbufw i => bufWord s.BBUF i.val (by omega)
  | .cbufw i => bufWord s.CBUF i.val (by omega)

/-- The store of a word into a register other than `CMD` (rule R32); a read-only register ignores it
(rule R36). `CMD` is not stored (rule R37). -/
def writeReg (r : HostReg) (v : Word) (s : State) : State :=
  match r with
  | .cmd => s
  | .err => s
  | .cost => s.setCost v
  | .keylen => s.setKeylen v
  | .saltlen => s.setSaltlen v
  | .left => s.setL v
  | .right => s.setR v
  | .blen => s
  | .clen => s
  | .saltw i => s.setSalt (setBufWord s.SALT i.val v (by omega))
  | .digw _ => s
  | .keyw i => s.setKey (setBufWord s.KEY i.val v (by omega))
  | .bbufw i => s.setBbuf (setBufWord s.BBUF i.val v (by omega))
  | .cbufw i => s.setCbuf (setBufWord s.CBUF i.val v (by omega))

/-- `HostRead(off)` of rule R31, at an aligned offset inside the window; an unassigned one reads 0. -/
def hostRead (off : Nat) (s : State) : Word :=
  match regAt off with
  | some r => readReg r s
  | none => 0

/-- `Exec(c)` of 30_encoding.md rule R49: a legal word performs its command; an illegal one is the error
`IllegalCommand` and nothing else (rule R52). -/
def execWord (c : Word) (s : State) : Host.Outcome State Fault Refusal :=
  match decode c with
  | .ok i => exec i s
  | .error _ => .next (s.raise .neither .illegalCommand)

/-- `HostWrite(off, v)` of rule R32, at an aligned offset inside the window; a write to `CMD` executes the
word (rule R37), and one to an unassigned offset has no effect. -/
def hostWrite (off : Nat) (v : Word) (s : State) : Host.Outcome State Fault Refusal :=
  match regAt off with
  | some .cmd => execWord v s
  | some r => .next (writeReg r v s)
  | none => .next s

/-- Why an access has no meaning (rule R35); `none` for an aligned 32-bit access inside the window. -/
def accessProblem (off width : Nat) : Option Refusal :=
  if Config.windowBytes ≤ off then some (.outsideWindow off)
  else if off % 4 ≠ 0 then some (.misaligned off)
  else if width ≠ Config.hostWidth then some (.notWordWide width)
  else none

/-- One host event accepted (00_scope.md rule R9), in the state from which it has been taken. -/
def acceptEvent (e : HostEvent) (s : State) : Host.Outcome State Fault Refusal :=
  match e with
  | .reset => .next s.hostReset
  | .read off width =>
    match accessProblem off width with
    | some p => .refused p
    | none => .next (s.reply (hostRead off s))
  | .write off width v =>
    match accessProblem off width with
    | some p => .refused p
    | none => hostWrite off v s

/-- The step: the oldest event the host has issued is accepted, each completely before the next
(20_memory.md rule R39). With none issued BFC is idle and keeps its state (60_exceptions.md rule R126,
70_reset_and_hazards.md rule R131; log entry 3). -/
def acceptNext (s : State) : Host.Outcome State Fault Refusal :=
  match s.inbox with
  | [] => .next s
  | e :: rest => acceptEvent e (s.setInbox rest)

/-- The state in which the host's next event is the write of a command word to `CMD` (30_encoding.md
rule R53), before whatever it has issued already (log entry 1). -/
def State.issueCommand (s : State) (c : Word) : State :=
  s.setInbox (.write HostReg.cmd.offset Config.hostWidth c :: s.inbox)

end Sys2Proof.Machine
end

