-- ==== Sys2Proof/Machine/Step.lean ====
section
/-!
DEFINITION. One step of BFC: one host event accepted (00_scope.md rule R9, 20_memory.md rule R39).
-/

namespace Sys2Proof.Machine

/-- One step of the machine. -/
def step (s : State) : Host.Outcome State Fault Refusal := acceptNext s

/-- The state whose next step fetches and runs the command of `w`'s low `nbits` bits. BFC fetches at no
program counter: a command is the data of a host write to `CMD` (20_memory.md rule R43), so this issues
that write (log entry 1). -/
def State.withFetchWord (s : State) (nbits w : Nat) : State :=
  s.issueCommand (BitVec.ofNat 32 (w % 2 ^ nbits))

end Sys2Proof.Machine
end

