-- ==== Sys2Proof/Safety.lean ====
section
/-!
DEFINITION. The terms in which claims about BFC are stated: the invariant of 10_state.md rule R29, clean
states (70_reset_and_hazards.md rule R139), the unit of a command (30_encoding.md rule R50), agreement of
two states on one unit's registers (00_scope.md rule R2) or on all but the sensitive store (10_state.md
rule R26), and the inputs with which the composite commands succeed (43_eksblowfish.md rule R96).
-/

namespace Sys2Proof.Machine

/-- The invariant of 10_state.md rule R29. -/
abbrev State.Inv (s : State) : Prop :=
  s.BLEN.toNat ≤ 24 ∧ s.CLEN.toNat ≤ 32 ∧ s.ERR.toNat ≤ 8 ∧ s.ERR.toNat ≠ 5 ∧ s.ERR.toNat ≠ 6

/-- A clean state (70_reset_and_hazards.md rule R139): `P`, `S`, `KEY` all zero and `KEYLEN = 0`. -/
abbrev State.Clean (s : State) : Prop :=
  (∀ i : Fin 18, s.P[i] = 0) ∧ (∀ (b : Fin 4) (j : Fin 256), s.S[b][j] = 0) ∧
    (∀ i : Fin 72, s.KEY[i] = 0) ∧ s.KEYLEN = 0

/-- The unit of a command (30_encoding.md rule R50). -/
def unitOf : Instr → FunctionalUnit
  | .init => .blowfish
  | .expandkey => .blowfish
  | .expandstateK => .blowfish
  | .expandstateS => .blowfish
  | .encblock => .blowfish
  | .ekssetup => .blowfish
  | .ecbmagic => .blowfish
  | .bcrypt => .blowfish
  | .scrub => .blowfish
  | .b64enc _ => .base64
  | .b64dec _ => .base64

/-- The codes other than 0 that a command can leave in `ERR` (60_exceptions.md rule R112). -/
def errorsOf : Instr → List ErrorKind
  | .init => []
  | .expandkey => [.invalidSalt, .invalidKey]
  | .expandstateK => [.invalidKey]
  | .expandstateS => [.invalidSalt]
  | .encblock => []
  | .ekssetup => [.invalidCost, .invalidSalt, .invalidKey]
  | .ecbmagic => []
  | .bcrypt => [.invalidCost, .invalidSalt, .invalidKey]
  | .scrub => []
  | .b64enc _ => [.bufferTooSmall]
  | .b64dec _ => [.bufferTooSmall, .malformedEncoding]

/-- Agreement on the Blowfish unit's registers (00_scope.md rule R2). -/
abbrev SameBlowfish (s t : State) : Prop :=
  s.P = t.P ∧ s.S = t.S ∧ s.KEY = t.KEY ∧ s.KEYLEN = t.KEYLEN ∧ s.SALT = t.SALT ∧
    s.SALTLEN = t.SALTLEN ∧ s.COST = t.COST ∧ s.L = t.L ∧ s.R = t.R ∧ s.DIGEST = t.DIGEST

/-- Agreement on the Base64 unit's registers (00_scope.md rule R2). -/
abbrev SameBase64 (s t : State) : Prop :=
  s.BBUF = t.BBUF ∧ s.BLEN = t.BLEN ∧ s.CBUF = t.CBUF ∧ s.CLEN = t.CLEN

/-- Agreement on the host's side of the port (log entries 1 and 2). -/
abbrev SamePort (s t : State) : Prop := s.inbox = t.inbox ∧ s.replies = t.replies

/-- Agreement on everything but `P`, `S` and `KEY`, the state that no host read can reach (10_state.md
rule R26). -/
abbrev SameButStore (s t : State) : Prop :=
  s = { t with P := s.P, S := s.S, KEY := s.KEY }

/-- The effective inputs of `BCRYPT` agree (43_eksblowfish.md rule R104 c): the first `klen` key bytes,
`klen`, the salt and the cost. -/
abbrev SameHashInputs (s t : State) : Prop :=
  s.klen = t.klen ∧ (∀ i : Fin 72, i.val < s.klen → s.KEY[i] = t.KEY[i]) ∧ s.SALT = t.SALT ∧ s.COST = t.COST

/-- The inputs with which `EKSSETUP` and `BCRYPT` succeed (43_eksblowfish.md rule R96). -/
abbrev State.SetupReady (s : State) : Prop :=
  4 ≤ s.COST.toNat ∧ s.COST.toNat ≤ 31 ∧ s.SALTLEN.toNat = 16 ∧ 1 ≤ s.KEYLEN.toNat

/-- A host event that executes a command word: a write at the offset of `CMD` (20_memory.md rule R37). -/
abbrev HostEvent.IsCommand : HostEvent → Prop
  | .reset => False
  | .read _ _ => False
  | .write off _ _ => off = 0

end Sys2Proof.Machine
end

