-- ==== Sys2Proof/Reference.lean ====
section
/-!
DEFINITION. Second forms that the spec itself gives, against which the machine is held: the bit strings
of `Enc` and `Dec` (40_base64.md rules R62, R63), the block encryption without swaps (42_blowfish_core.md
rule R81), the key-stream word by its index (rule R82), the flat order of the subkey words (10_state.md
rule R12), and host sequences of commands (43_eksblowfish.md rule R104). The machine reads none of them.
-/

namespace Sys2Proof.Machine

/-- The bits of a vector, most significant first (rules R62 and R63). -/
def msbBits {w : Nat} (x : BitVec w) : List Bool := (List.range w).map x.getMsbD

/-- The number a bit string stands for, first bit most significant. -/
def bitsValue (bits : List Bool) : Nat := bits.foldl (fun n b => 2 * n + b.toNat) 0

/-- `Enc` by bit strings (rule R62): `8n` bits, zeros appended to `6m`, cut into `m` groups of six. -/
def encByBits (bs : List Byte) : List Byte :=
  let m := (4 * bs.length + 2) / 3
  let bits := bs.flatMap msbBits ++ List.replicate (6 * m - 8 * bs.length) false
  (List.range m).map fun i => alpha (BitVec.ofNat 6 (bitsValue ((bits.drop (6 * i)).take 6)))

/-- The bytes of `Dec` by bit strings (rule R63): the first `8m` of the `6n` bits of the values. -/
def decByBits (vs : List (BitVec 6)) : List Byte :=
  let bits := vs.flatMap msbBits
  (List.range (3 * vs.length / 4)).map fun q => BitVec.ofNat 8 (bitsValue ((bits.drop (8 * q)).take 8))

/-- Two rounds of rule R81 written without swaps, with the P words of rounds `2i` and `2i + 1`. -/
def unswappedRounds (k : Subkeys) (x : Block) (i : Fin 8) : Block :=
  let xl := x.1 ^^^ k.P[2 * i.val]
  let xr := x.2 ^^^ fFunction k.S xl
  let xr := xr ^^^ k.P[2 * i.val + 1]
  (xl ^^^ fFunction k.S xr, xr)

/-- The same function as `EncryptBlock`, "written without swaps, two rounds per step" (rule R81). -/
def encryptUnswapped (k : Subkeys) (x : Block) : Block :=
  let y := (List.finRange 8).foldl (unswappedRounds k) x
  (y.2 ^^^ k.P[17], y.1 ^^^ k.P[16])

/-- Word `i` of the key stream of a buffer (rule R82): bytes `4i` to `4i + 3` of the buffer repeated. -/
def keyStreamWord {n : Nat} (buf : Vector Byte n) (len i : Nat) : Word :=
  be32 (bufByte buf (4 * i % len)) (bufByte buf ((4 * i + 1) % len)) (bufByte buf ((4 * i + 2) % len))
    (bufByte buf ((4 * i + 3) % len))

/-- The 1 042 subkey words in the flat order of 10_state.md rule R12. -/
def Subkeys.flat (k : Subkeys) : List Word := k.P.toList ++ k.S.toList.flatMap fun box => box.toList

/-- The state in which the host has issued the given commands and nothing else (30_encoding.md rule R53:
each is one write of its word to `CMD`). -/
def State.issueAll (s : State) (is : List Instr) : State :=
  s.setInbox (is.map fun i => .write HostReg.cmd.offset Config.hostWidth (encode i))

/-- The host runs the given commands, one host event each. -/
def runCommands (is : List Instr) (s : State) : Host.Outcome State Fault Refusal :=
  Host.Core.run Sys2Proof.core is.length (s.issueAll is)

/-- The host sequence of 43_eksblowfish.md rule R104 (a): `INIT`; `EXPANDKEY`; then `n` times
`EXPANDSTATE.K`; `EXPANDSTATE.S`. -/
def setupSequence (n : Nat) : List Instr :=
  [.init, .expandkey] ++ (List.replicate n [Instr.expandstateK, Instr.expandstateS]).flatten

end Sys2Proof.Machine
end

