-- ==== Sys2Proof/Certificates/Slice0/Obligations.lean ====
section
/-!
DEFINITION. The statements about BFC for the provers, file by file of spec/: encoding, host port, reset
and invariant, cipher functions, command results, errors and independence, Base64.
-/

open Sys2Proof Sys2Proof.Machine

/-! ## Encoding (30_encoding.md) -/

/-- Every well-formed command is read back from its word, at every value of its operand. -/
def Obligations.DecodeOfEncode : Prop :=
  ∀ i : Instr, i.WellFormed → decode (encode i) = .ok i

/-- Every legal word is the word of the one command it decodes to. -/
def Obligations.EncodeOfDecode : Prop :=
  ∀ (c : Word) (i : Instr), decode c = .ok i → i.WellFormed ∧ encode i = c

/-- Rule R51: no word selects two rows of the table. -/
def Obligations.OpcodeRowsDisjoint : Prop :=
  opcodeRows.Pairwise fun a b => ∀ c : Word, ¬ (a.Selects c ∧ b.Selects c)

/-- Rule R49: a write of `c` to `CMD` performs the command of the one row that `c` selects, with
`n = c[13:8]`, or, where there is none, is the illegal command; every word has a next state. -/
def Obligations.ExecOfCommandWord : Prop :=
  ∀ (s : State) (rest : List HostEvent) (c : Word), s.inbox = .write 0x000 32 c :: rest →
    ((∃ row ∈ opcodeRows, row.Selects c ∧ (∀ row' ∈ opcodeRows, row'.Selects c → row'.mnemonic = row.mnemonic) ∧
        step s = exec (row.command (nField c)) { s with inbox := rest }) ∨
      ((∀ row ∈ opcodeRows, ¬ row.Selects c) ∧ step s = .next { s with inbox := rest, ERR := 8 })) ∧
    ∃ t, step s = .next t

/-- Rule R52: the illegal words are those that select no row, which are exactly the words listed, and an
illegal word sets `ERR` to 8 and changes nothing else; no word is without a defined step. -/
def Obligations.IllegalWordsSetErrOnly : Prop :=
  ∀ (s : State) (rest : List HostEvent) (c : Word), s.inbox = .write 0x000 32 c :: rest →
    ((∃ e, decode c = .error e) ↔ ∀ row ∈ opcodeRows, ¬ row.Selects c) ∧
    ((∃ e, decode c = .error e) ↔
      (c.extractLsb' 16 16 ≠ 0 ∨
        c.extractLsb' 0 8 ∉ ([0x01, 0x02, 0x03, 0x04, 0x05, 0x06, 0x07, 0x08, 0x10, 0x11] : List (BitVec 8)) ∨
        (c.extractLsb' 0 8 ∈ ([0x01, 0x02, 0x04, 0x05, 0x06, 0x07, 0x08] : List (BitVec 8)) ∧
          c.extractLsb' 8 8 ≠ 0) ∨
        (c.extractLsb' 0 8 = (0x03 : BitVec 8) ∧ 1 < (c.extractLsb' 8 8).toNat) ∨
        (c.extractLsb' 0 8 ∈ ([0x10, 0x11] : List (BitVec 8)) ∧ c.extractLsb' 14 2 ≠ 0))) ∧
    ((∃ e, decode c = .error e) → step s = .next { s with inbox := rest, ERR := 8 }) ∧
    ∃ t, step s = .next t

/-- A few words written out from the formats of rules R46 to R48 decode to what they stand for. -/
def Obligations.SampleWordsDecode : Prop :=
  decode 0x00000001 = .ok .init ∧ decode 0x00000003 = .ok .expandstateK ∧
    decode 0x00000103 = .ok .expandstateS ∧ decode 0x00000007 = .ok .bcrypt ∧
    decode 0x00001710 = .ok (.b64enc 23) ∧ decode 0x00003F11 = .ok (.b64dec 63) ∧
    decode 0x00000000 = .error .unknownOpcode ∧ decode 0x00000203 = .error .operandField ∧
    decode 0x00010001 = .error .reservedField

/-- A step that takes a write to `CMD` runs the decoded command; the step adds to it that the event is
gone from the host's list. The second clause is the same for the word that `withFetchWord` places. -/
def Obligations.StepRunsDecodedCommand : Prop :=
  ∀ (s : State) (c : Word) (i : Instr), decode c = .ok i →
    (∀ rest, s.inbox = .write 0x000 32 c :: rest → step s = exec i { s with inbox := rest }) ∧
    step (s.withFetchWord 32 c.toNat) = exec i s

/-! ## Host port (20_memory.md) -/

/-- The register map: an offset is a register's exactly when it is the one the map gives it, and every
register lies at an aligned offset inside the window. -/
def Obligations.RegisterMapIsOneToOne : Prop :=
  (∀ (off : Nat) (r : HostReg), regAt off = some r ↔ off = r.offset) ∧
    (∀ r : HostReg, r.offset % 4 = 0 ∧ r.offset < 0x1000) ∧
    (∀ r q : HostReg, r.offset = q.offset → r = q)

/-- Rule R31: an aligned 32-bit read inside the window returns the word of the table and changes no
state of BFC. -/
def Obligations.HostReadReturnsTableWord : Prop :=
  ∀ (s : State) (rest : List HostEvent) (off : Nat), s.inbox = .read off 32 :: rest → off % 4 = 0 → off < 0x1000 →
    ∃ w, step s = .next { s with inbox := rest, replies := s.replies ++ [w] } ∧
      (off = 0x004 → w = s.ERR.setWidth 32) ∧
      (off = 0x008 → w = s.COST) ∧
      (off = 0x00C → w = s.KEYLEN) ∧
      (off = 0x010 → w = s.SALTLEN) ∧
      (off = 0x014 → w = s.L) ∧
      (off = 0x018 → w = s.R) ∧
      (off = 0x01C → w = s.BLEN.setWidth 32) ∧
      (off = 0x020 → w = s.CLEN.setWidth 32) ∧
      (∀ i : Fin 4, off = 0x040 + 4 * i.val →
        w = be32 s.SALT[4 * i.val] s.SALT[4 * i.val + 1] s.SALT[4 * i.val + 2] s.SALT[4 * i.val + 3]) ∧
      (∀ i : Fin 6, off = 0x050 + 4 * i.val →
        w = be32 s.DIGEST[4 * i.val] s.DIGEST[4 * i.val + 1] s.DIGEST[4 * i.val + 2] s.DIGEST[4 * i.val + 3]) ∧
      (∀ i : Fin 6, off = 0x100 + 4 * i.val →
        w = be32 s.BBUF[4 * i.val] s.BBUF[4 * i.val + 1] s.BBUF[4 * i.val + 2] s.BBUF[4 * i.val + 3]) ∧
      (∀ i : Fin 8, off = 0x120 + 4 * i.val →
        w = be32 s.CBUF[4 * i.val] s.CBUF[4 * i.val + 1] s.CBUF[4 * i.val + 2] s.CBUF[4 * i.val + 3]) ∧
      ((off = 0x000 ∨ (0x020 < off ∧ off < 0x040) ∨ (0x064 < off ∧ off < 0x100) ∨
          (0x114 < off ∧ off < 0x120) ∨ 0x13C < off) → w = 0)

/-- Rule R32: an aligned 32-bit write inside the window stores as the table says and changes nothing
else; at `CMD` it executes the word; elsewhere it has no effect. -/
def Obligations.HostWriteStoresByTable : Prop :=
  ∀ (s : State) (rest : List HostEvent) (off : Nat) (v : Word),
    s.inbox = .write off 32 v :: rest → off % 4 = 0 → off < 0x1000 →
      (off = 0x000 → step s = execWord v { s with inbox := rest }) ∧
      (off = 0x008 → step s = .next { s with inbox := rest, COST := v }) ∧
      (off = 0x00C → step s = .next { s with inbox := rest, KEYLEN := v }) ∧
      (off = 0x010 → step s = .next { s with inbox := rest, SALTLEN := v }) ∧
      (off = 0x014 → step s = .next { s with inbox := rest, L := v }) ∧
      (off = 0x018 → step s = .next { s with inbox := rest, R := v }) ∧
      (∀ i : Fin 4, off = 0x040 + 4 * i.val →
        ∃ X : Vector Byte 16, step s = .next { s with inbox := rest, SALT := X } ∧
          ∀ j : Fin 16, X[j] = if j.val / 4 = i.val then byteOf v (j.val % 4) else s.SALT[j]) ∧
      (∀ i : Fin 18, off = 0x080 + 4 * i.val →
        ∃ X : Vector Byte 72, step s = .next { s with inbox := rest, KEY := X } ∧
          ∀ j : Fin 72, X[j] = if j.val / 4 = i.val then byteOf v (j.val % 4) else s.KEY[j]) ∧
      (∀ i : Fin 6, off = 0x100 + 4 * i.val →
        ∃ X : Vector Byte 24, step s = .next { s with inbox := rest, BBUF := X } ∧
          ∀ j : Fin 24, X[j] = if j.val / 4 = i.val then byteOf v (j.val % 4) else s.BBUF[j]) ∧
      (∀ i : Fin 8, off = 0x120 + 4 * i.val →
        ∃ X : Vector Byte 32, step s = .next { s with inbox := rest, CBUF := X } ∧
          ∀ j : Fin 32, X[j] = if j.val / 4 = i.val then byteOf v (j.val % 4) else s.CBUF[j]) ∧
      ((off = 0x004 ∨ (0x018 < off ∧ off < 0x040) ∨ (0x04C < off ∧ off < 0x080) ∨
          (0x0C4 < off ∧ off < 0x100) ∨ (0x114 < off ∧ off < 0x120) ∨ 0x13C < off) →
        step s = .next { s with inbox := rest })

/-- Rule R35: a misaligned access, one that is not 32 bits wide and one outside the window have no step;
an aligned 32-bit access to an unassigned offset reads 0 and writes nothing, `ERR` included. -/
def Obligations.OnlyAlignedWordAccessesStep : Prop :=
  ∀ (s : State) (rest : List HostEvent) (off width : Nat) (v : Word),
    ((off % 4 ≠ 0 ∨ width ≠ 32 ∨ 0x1000 ≤ off) →
      (s.inbox = .read off width :: rest → ∃ p, step s = .refused p) ∧
      (s.inbox = .write off width v :: rest → ∃ p, step s = .refused p)) ∧
    (off % 4 = 0 → width = 32 → off < 0x1000 → (∀ r : HostReg, r.offset ≠ off) →
      (s.inbox = .read off width :: rest →
        step s = .next { s with inbox := rest, replies := s.replies ++ [0] }) ∧
      (s.inbox = .write off width v :: rest → step s = .next { s with inbox := rest }))

/-- A readable and writable register reads back the word written; a register that ignores writes and a
write-only one keep the word they read as; and no write shows in another register. -/
def Obligations.WrittenRegisterReadsBack : Prop :=
  ∀ (s : State) (v : Word) (r q : HostReg),
    (r ∈ [HostReg.cost, .keylen, .saltlen, .left, .right] ∨ (∃ i, r = .saltw i) ∨ (∃ i, r = .bbufw i) ∨
        (∃ i, r = .cbufw i) → readReg r (writeReg r v s) = v) ∧
    (r ∈ [HostReg.cmd, .err, .blen, .clen] ∨ (∃ i, r = .digw i) ∨ (∃ i, r = .keyw i) →
      readReg r (writeReg r v s) = readReg r s) ∧
    (r ≠ q → readReg q (writeReg r v s) = readReg q s)

/-- Reads change nothing of BFC and repeat their word, a read of `CMD` is 0 and runs nothing, a write not
to `CMD` made twice is the write made once, and there are a state and a word whose write to `CMD` made
twice is not that write made once. -/
def Obligations.AccessSideEffects : Prop :=
  (∀ (s : State) (rest : List HostEvent) (off : Nat), off % 4 = 0 → off < 0x1000 →
    s.inbox = .read off 32 :: .read off 32 :: rest →
      ∃ w, Host.Core.run Sys2Proof.core 2 s = .next { s with inbox := rest, replies := s.replies ++ [w, w] } ∧
        (off = 0x000 → w = 0)) ∧
    (∀ (s : State) (rest : List HostEvent) (off : Nat) (v : Word), off % 4 = 0 → off < 0x1000 → off ≠ 0x000 →
      Host.Core.run Sys2Proof.core 2 { s with inbox := .write off 32 v :: .write off 32 v :: rest } =
        Host.Core.run Sys2Proof.core 1 { s with inbox := .write off 32 v :: rest }) ∧
    ∃ (s : State) (v : Word),
      (match Host.Core.run Sys2Proof.core 1 { s with inbox := [.write 0x000 32 v] },
          Host.Core.run Sys2Proof.core 2 { s with inbox := [.write 0x000 32 v, .write 0x000 32 v] } with
        | .next t, .next u => t ≠ u
        | _, _ => False)

/-- Two machines that differ only in `P`, `S`, `KEY` and run the same host events without a command give
the host the same words, stop alike, and go on differing in `P`, `S`, `KEY` only: the store cannot be
read. -/
def Obligations.HostWithoutCommandsLearnsNoKey : Prop :=
  ∀ (n : Nat) (s t : State), SameButStore s t → (∀ e ∈ s.inbox, ¬ e.IsCommand) →
    match Host.Core.run Sys2Proof.core n s, Host.Core.run Sys2Proof.core n t with
    | .next s', .next t' => s'.replies = t'.replies ∧ SameButStore s' t'
    | .refused p, .refused q => p = q
    | _, _ => False

/-- With no event issued a step keeps the state. The model's choice (log entry 3), from the sentences
that BFC is idle between commands and keeps all its state. -/
def Obligations.IdleStepKeepsState : Prop :=
  ∀ s : State, s.inbox = [] → step s = .next s

/-! ## Reset and the invariant (10_state.md, 70_reset_and_hazards.md) -/

/-- Rule R131: after `Reset`, from any state, every element holds zero, and `State.reset` holds the same;
the subkeys are not the constants of `INIT`, `ENCBLOCK` then swaps the halves and `BCRYPT` returns
`InvalidCost`. -/
def Obligations.ResetZeroesEverything : Prop :=
  ∀ (s : State) (rest : List HostEvent), s.inbox = .reset :: rest →
    ∃ t, step s = .next t ∧
      (∀ i : Fin 18, t.P[i] = 0) ∧ (∀ (b : Fin 4) (j : Fin 256), t.S[b][j] = 0) ∧ (∀ i : Fin 72, t.KEY[i] = 0) ∧
      t.KEYLEN = 0 ∧ (∀ i : Fin 16, t.SALT[i] = 0) ∧ t.SALTLEN = 0 ∧ t.COST = 0 ∧ t.L = 0 ∧ t.R = 0 ∧
      (∀ i : Fin 24, t.DIGEST[i] = 0) ∧ (∀ i : Fin 24, t.BBUF[i] = 0) ∧ t.BLEN = 0 ∧
      (∀ i : Fin 32, t.CBUF[i] = 0) ∧ t.CLEN = 0 ∧ t.ERR = 0 ∧
      t = { State.reset with inbox := t.inbox, replies := t.replies } ∧ t.P ≠ piP ∧ t.S ≠ piS ∧
      (∀ l r : Word, exec .encblock { t with L := l, R := r } = .next { t with L := r, R := l }) ∧
      exec .bcrypt t = .next { t with ERR := 1 }

/-- The invariant of rule R29 holds after reset. -/
def Obligations.ResetMeetsStatusBounds : Prop := State.reset.Inv

/-- Every step keeps the invariant of rule R29, from every state that meets it. -/
def Obligations.StepKeepsStatusBounds : Prop :=
  ∀ s t : State, s.Inv → step s = .next t → t.Inv

/-! ## The cipher functions (42_blowfish_core.md, 43_eksblowfish.md) -/

/-- Rule R80: add, xor, add, with the first sum and the result taken modulo 2^32, and its example. -/
def Obligations.FFunctionAddsXorsAdds : Prop :=
  (∀ (S : Vector (Vector Word 256) 4) (a b c d : Byte),
    (fFunction S (be32 a b c d)).toNat =
      ((((S[0][a.toNat]'a.isLt).toNat + (S[1][b.toNat]'b.isLt).toNat) % 2 ^ 32 ^^^
          (S[2][c.toNat]'c.isLt).toNat) + (S[3][d.toNat]'d.isLt).toNat) % 2 ^ 32) ∧
    (∀ x : Word, x = be32 (x.extractLsb' 24 8) (x.extractLsb' 16 8) (x.extractLsb' 8 8) (x.extractLsb' 0 8)) ∧
    piS[0][0] + piS[1][0] = 0x1CAB7C8F ∧ fFunction piS 0x00000000 = 0x2FCFF51E

/-- The sixteen rounds with swaps are the eight double rounds without (rule R81's second form). -/
def Obligations.EncryptBlockWithoutSwaps : Prop :=
  ∀ (k : Subkeys) (x : Block), encryptBlock k x = encryptUnswapped k x

/-- For all subkeys, encryption is a bijection on blocks. -/
def Obligations.EncryptBlockIsBijective : Prop :=
  ∀ k : Subkeys, Function.Bijective (encryptBlock k)

/-- The example of rule R81: the zero block under the constants of pi, after rounds 0, 1 and 15 and at
the end. -/
def Obligations.EncryptZeroBlockUnderPi : Prop :=
  feistelRound piSubkeys (0, 0) 0 = (0xDB2F9C4E, 0x243F6A88) ∧
    feistelRound piSubkeys (0xDB2F9C4E, 0x243F6A88) 1 = (0x173F4648, 0x5E8C949D) ∧
    (List.finRange 16).foldl (feistelRound piSubkeys) (0, 0) = (0x858407E3, 0xF91464D7) ∧
    encryptBlock piSubkeys (0, 0) = (0x706D9FCC, 0x1792D23A)

/-- Phase 1 of the expansion, closed: word `i` of `P` is xored with bytes `4i` to `4i + 3` of the key
repeated byte by byte, most significant first; bytes from the length on are not read. -/
def Obligations.KeyStreamIsCyclicBytes : Prop :=
  ∀ (n : Nat) (key : Vector Byte n) (klen : Nat) (P : Vector Word 18), 1 ≤ klen → klen ≤ n →
    (∀ i : Fin 18, (mixKey key klen P)[i] = P[i] ^^^ keyStreamWord key klen i.val) ∧
    ∀ key' : Vector Byte n, (∀ j : Fin n, j.val < klen → key'[j] = key[j]) → mixKey key' klen P = mixKey key klen P

/-- Rule R83: there are 521 encryptions; number `t` encrypts the output of the one before (at first the
zero block), xored with salt words 0 and 1 when `t` is even and 2 and 3 when `t` is odd if there is data,
under the subkeys as they are then; its output replaces flat words `2t` and `2t + 1`; phase 1 xors the
key-stream words into `P` and leaves `S`. -/
def Obligations.ExpandChainsOverFlatSubkeys : Prop :=
  ∀ (n : Nat) (key : Vector Byte n) (klen : Nat) (k : Subkeys) (data : Option (Vector Byte 16)),
    1 ≤ klen → klen ≤ n →
    ∃ (ks : Nat → Subkeys) (out : Nat → Block),
      (∀ i : Fin 18, (ks 0).P[i] = k.P[i] ^^^ keyStreamWord key klen i.val) ∧ (ks 0).S = k.S ∧
      (∀ t < 521,
        let prev : Block := if t = 0 then (0, 0) else out (t - 1)
        let x : Block :=
          match data with
          | none => prev
          | some salt =>
            if t % 2 = 0 then (prev.1 ^^^ bufWord salt 0 (by decide), prev.2 ^^^ bufWord salt 1 (by decide))
            else (prev.1 ^^^ bufWord salt 2 (by decide), prev.2 ^^^ bufWord salt 3 (by decide))
        out t = encryptBlock (ks t) x ∧
          (ks (t + 1)).flat = ((ks t).flat.set (2 * t) (out t).1).set (2 * t + 1) (out t).2) ∧
      (ks 521).flat.length = 2 * 521 ∧
      expand k key klen data = ks 521

/-- A data stream of sixteen zero bytes is no data stream, so `EXPANDKEY` with a zero salt leaves the
subkeys of `EXPANDSTATE.K`. -/
def Obligations.ZeroSaltIsNoSalt : Prop :=
  (∀ (n : Nat) (k : Subkeys) (key : Vector Byte n) (klen : Nat),
    expand k key klen (some (Vector.replicate 16 0)) = expand k key klen none) ∧
    ∀ s : State, s.SALT = Vector.replicate 16 0 → s.SALTLEN = 16 → exec .expandkey s = exec .expandstateK s

/-- Two keys whose cyclic extensions to 72 bytes are equal expand alike; so do "ab" and "abab". -/
def Obligations.ExpandReadsKeyCyclically : Prop :=
  ∀ (m n : Nat) (key : Vector Byte m) (key' : Vector Byte n) (len len' : Nat) (k : Subkeys)
    (data : Option (Vector Byte 16)), 1 ≤ len → len ≤ m → 1 ≤ len' → len' ≤ n →
    (∀ j < 72, bufByte key (j % len) = bufByte key' (j % len')) →
      expand k key len data = expand k key' len' data

/-- Where `KEYLEN` is at least 72, its value does not show in the subkeys or the digest of any command
that uses the key. -/
def Obligations.KeyLengthIsCutAt72 : Prop :=
  ∀ (s : State) (v : Word) (i : Instr), 72 ≤ s.KEYLEN.toNat → 72 ≤ v.toNat →
    i ∈ [Instr.expandkey, .expandstateK, .ekssetup, .bcrypt] →
    ∃ t u, exec i s = .next t ∧ exec i { s with KEYLEN := v } = .next u ∧
      t.P = u.P ∧ t.S = u.S ∧ t.DIGEST = u.DIGEST ∧ t.ERR = u.ERR

/-- The digest of a successful `BCRYPT` is a function of the first `klen` key bytes, `klen`, `SALT` and
`COST` alone: nothing else of the two states is assumed equal. -/
def Obligations.BcryptDigestIsPure : Prop :=
  ∀ s t : State, s.SetupReady → t.SetupReady → SameHashInputs s t →
    ∃ s' t', exec .bcrypt s = .next s' ∧ exec .bcrypt t = .next t' ∧ s'.ERR = 0 ∧ t'.ERR = 0 ∧
      s'.DIGEST = t'.DIGEST

/-- Rule R98: the digest holds, big-endian, the three magic blocks, each encrypted 64 times in turn. -/
def Obligations.EcbMagicEncryptsEachBlockAlone : Prop :=
  ∀ k : Subkeys,
    let y0 := (encryptBlock k)^[64] (0x4F727068, 0x65616E42)
    let y1 := (encryptBlock k)^[64] (0x65686F6C, 0x64657253)
    let y2 := (encryptBlock k)^[64] (0x63727944, 0x6F756274)
    ∀ j : Fin 4,
      (ecbMagic k)[j.val] = byteOf y0.1 j.val ∧ (ecbMagic k)[4 + j.val] = byteOf y0.2 j.val ∧
      (ecbMagic k)[8 + j.val] = byteOf y1.1 j.val ∧ (ecbMagic k)[12 + j.val] = byteOf y1.2 j.val ∧
      (ecbMagic k)[16 + j.val] = byteOf y2.1 j.val ∧ (ecbMagic k)[20 + j.val] = byteOf y2.2 j.val

/-- Under zero subkeys encryption swaps the halves, and the digest of `ECBMAGIC` is the magic text. -/
def Obligations.ZeroSubkeysSwapHalves : Prop :=
  (∀ l r : Word, encryptBlock zeroSubkeys (l, r) = (r, l)) ∧ ecbMagic zeroSubkeys = magic

/-! ## The commands of the Blowfish unit -/

/-- `INIT`: its word, its effect, which is all it does, and the words of its example. -/
def Obligations.InitLoadsPi : Prop :=
  encode .init = 0x00000001 ∧
    (∀ s : State, exec .init s = .next { s with P := piP, S := piS, ERR := 0 }) ∧
    piP[0] = 0x243F6A88 ∧ piP[17] = 0x8979FB1B ∧ piS[0][0] = 0xD1310BA6 ∧ piS[3][255] = 0x3AC372E6

/-- `ENCBLOCK`: its word; its effect, which is all it does; under zero subkeys, and its example. -/
def Obligations.EncblockEncryptsDataRegisters : Prop :=
  encode .encblock = 0x00000004 ∧
    ∀ s : State,
      (∀ l r : Word, encryptBlock ⟨s.P, s.S⟩ (s.L, s.R) = (l, r) →
        exec .encblock s = .next { s with L := l, R := r, ERR := 0 }) ∧
      (s.P = Vector.replicate 18 0 → s.S = Vector.replicate 4 (Vector.replicate 256 0) →
        exec .encblock s = .next { s with L := s.R, R := s.L, ERR := 0 }) ∧
      (s.P = piP → s.S = piS → s.L = 0 → s.R = 0 →
        exec .encblock s = .next { s with L := 0x706D9FCC, R := 0x1792D23A, ERR := 0 })

/-- `EXPANDKEY`: its word; its effect on any state with a 16-byte salt and a key; salt before key in its
errors, each of which scrubs. -/
def Obligations.ExpandkeyResult : Prop :=
  encode .expandkey = 0x00000002 ∧
    ∀ s : State,
      (s.SALTLEN = 16 → s.KEYLEN ≠ 0 → ∀ k, k = expand ⟨s.P, s.S⟩ s.KEY (min s.KEYLEN.toNat 72) (some s.SALT) →
        exec .expandkey s = .next { s with P := k.P, S := k.S, ERR := 0 }) ∧
      (s.SALTLEN ≠ 16 → exec .expandkey s = .next { s.scrub with ERR := 2 }) ∧
      (s.SALTLEN = 16 → s.KEYLEN = 0 → exec .expandkey s = .next { s.scrub with ERR := 3 })

/-- `EXPANDSTATE.K`: its word; its effect on any state with a key; its error, which scrubs. -/
def Obligations.ExpandstateKeyResult : Prop :=
  encode .expandstateK = 0x00000003 ∧
    ∀ s : State,
      (s.KEYLEN ≠ 0 → ∀ k, k = expand ⟨s.P, s.S⟩ s.KEY (min s.KEYLEN.toNat 72) none →
        exec .expandstateK s = .next { s with P := k.P, S := k.S, ERR := 0 }) ∧
      (s.KEYLEN = 0 → exec .expandstateK s = .next { s.scrub with ERR := 3 })

/-- `EXPANDSTATE.S`: its word; its effect on any state with a 16-byte salt; its error, which scrubs; and
the 18 words of its phase 1, which are the four salt words in turn. -/
def Obligations.ExpandstateSaltResult : Prop :=
  encode .expandstateS = 0x00000103 ∧
    (∀ s : State,
      (s.SALTLEN = 16 → ∀ k, k = expand ⟨s.P, s.S⟩ s.SALT 16 none →
        exec .expandstateS s = .next { s with P := k.P, S := k.S, ERR := 0 }) ∧
      (s.SALTLEN ≠ 16 → exec .expandstateS s = .next { s.scrub with ERR := 2 })) ∧
    ∀ (salt : Vector Byte 16) (P : Vector Word 18) (i : Fin 18),
      (mixKey salt 16 P)[i] = P[i] ^^^ bufWord salt (i.val % 4) (by omega)

/-- `EKSSETUP`: its word; its effect where cost, salt and key are valid, with no scrub; its errors in the
order cost, salt, key, each of which scrubs. -/
def Obligations.EkssetupResult : Prop :=
  encode .ekssetup = 0x00000005 ∧
    ∀ s : State,
      (4 ≤ s.COST.toNat → s.COST.toNat ≤ 31 → s.SALTLEN = 16 → s.KEYLEN ≠ 0 →
        ∀ k, k = eksSetup s.KEY (min s.KEYLEN.toNat 72) s.SALT s.COST.toNat →
          exec .ekssetup s = .next { s with P := k.P, S := k.S, ERR := 0 }) ∧
      (s.COST.toNat < 4 ∨ 31 < s.COST.toNat → exec .ekssetup s = .next { s.scrub with ERR := 1 }) ∧
      (4 ≤ s.COST.toNat → s.COST.toNat ≤ 31 → s.SALTLEN ≠ 16 →
        exec .ekssetup s = .next { s.scrub with ERR := 2 }) ∧
      (4 ≤ s.COST.toNat → s.COST.toNat ≤ 31 → s.SALTLEN = 16 → s.KEYLEN = 0 →
        exec .ekssetup s = .next { s.scrub with ERR := 3 })

/-- `ECBMAGIC`: its word and its effect, which is all it does. -/
def Obligations.EcbmagicResult : Prop :=
  encode .ecbmagic = 0x00000006 ∧
    ∀ s : State, exec .ecbmagic s = .next { s with DIGEST := ecbMagic ⟨s.P, s.S⟩, ERR := 0 }

/-- `BCRYPT`: its word; its effect where cost, salt and key are valid (the digest of the derived subkeys,
then the scrub); its errors in the order cost, salt, key, which leave the digest; and a second `BCRYPT`
fails with `InvalidKey`. -/
def Obligations.BcryptResult : Prop :=
  encode .bcrypt = 0x00000007 ∧
    ∀ s : State,
      (4 ≤ s.COST.toNat → s.COST.toNat ≤ 31 → s.SALTLEN = 16 → s.KEYLEN ≠ 0 →
        ∀ d, d = ecbMagic (eksSetup s.KEY (min s.KEYLEN.toNat 72) s.SALT s.COST.toNat) →
          exec .bcrypt s = .next { s.scrub with DIGEST := d, ERR := 0 } ∧
          exec .bcrypt { s.scrub with DIGEST := d, ERR := 0 } = .next { s.scrub with DIGEST := d, ERR := 3 }) ∧
      (s.COST.toNat < 4 ∨ 31 < s.COST.toNat → exec .bcrypt s = .next { s.scrub with ERR := 1 }) ∧
      (4 ≤ s.COST.toNat → s.COST.toNat ≤ 31 → s.SALTLEN ≠ 16 →
        exec .bcrypt s = .next { s.scrub with ERR := 2 }) ∧
      (4 ≤ s.COST.toNat → s.COST.toNat ≤ 31 → s.SALTLEN = 16 → s.KEYLEN = 0 →
        exec .bcrypt s = .next { s.scrub with ERR := 3 })

/-- `SCRUB`: its word and its effect, element by element; everything else is as before but `ERR`. -/
def Obligations.ScrubZeroesSensitiveState : Prop :=
  encode .scrub = 0x00000008 ∧
    ∀ s : State, ∃ t, exec .scrub s = .next t ∧ t.Clean ∧
      t = { s with P := t.P, S := t.S, KEY := t.KEY, KEYLEN := t.KEYLEN, ERR := 0 } ∧
      exec .scrub t = .next t

/-- `EKSSETUP` leaves the state of the host sequence `INIT`; `EXPANDKEY`; then `2^COST` times
`EXPANDSTATE.K`; `EXPANDSTATE.S`, run command by command through the port, and that state has `ERR = 0`. -/
def Obligations.EkssetupEqualsPrimitives : Prop :=
  ∀ s : State, s.SetupReady →
    ∃ t, runCommands (setupSequence (2 ^ s.COST.toNat)) s = .next t ∧ t.ERR = 0 ∧
      runCommands [.ekssetup] s = .next t

/-- `BCRYPT` leaves the state of `EKSSETUP`; `ECBMAGIC`; `SCRUB`, run through the port. -/
def Obligations.BcryptEqualsThreeCommands : Prop :=
  ∀ s : State, s.SetupReady →
    ∃ t, runCommands [.ekssetup, .ecbmagic, .scrub] s = .next t ∧ t.ERR = 0 ∧
      runCommands [.bcrypt] s = .next t

/-! ## Errors and the two units (60_exceptions.md, 00_scope.md) -/

/-- A failing command changes nothing but `ERR`, and, if it is of the Blowfish unit, zeroes `P`, `S`,
`KEY`, `KEYLEN`; an illegal word changes nothing but `ERR`. -/
def Obligations.FailingCommandIsAllOrNothing : Prop :=
  (∀ (i : Instr) (s t : State), exec i s = .next t → t.ERR ≠ 0 →
    (unitOf i = .blowfish → t.Clean ∧
      t = { s with P := t.P, S := t.S, KEY := t.KEY, KEYLEN := t.KEYLEN, ERR := t.ERR }) ∧
    (unitOf i = .base64 → t = { s with ERR := t.ERR })) ∧
  ∀ (c : Word) (s : State), (∃ e, decode c = .error e) → execWord c s = .next { s with ERR := 8 }

/-- Rule R112: a command leaves in `ERR` 0 or the code of an error of its list, never another; each error
of the list is raised in some state (for the Base64 commands, by some count); an illegal word raises
`IllegalCommand` and nothing else. -/
def Obligations.ErrorsOfEachCommand : Prop :=
  (∀ (i : Instr) (s t : State), exec i s = .next t → t.ERR = 0 ∨ ∃ e ∈ errorsOf i, t.ERR = e.code) ∧
  (∀ i ∈ [Instr.init, .expandkey, .expandstateK, .expandstateS, .encblock, .ekssetup, .ecbmagic, .bcrypt, .scrub],
    ∀ e ∈ errorsOf i, ∃ s t, exec i s = .next t ∧ t.ERR = e.code) ∧
  (∀ e ∈ errorsOf (.b64enc 0), ∃ n s t, exec (.b64enc n) s = .next t ∧ t.ERR = e.code) ∧
  (∀ e ∈ errorsOf (.b64dec 0), ∃ n s t, exec (.b64dec n) s = .next t ∧ t.ERR = e.code) ∧
  ∀ (c : Word) (s : State), (∃ e, decode c = .error e) →
    ∃ t, execWord c s = .next t ∧ t.ERR = ErrorKind.illegalCommand.code

/-- A command of one unit writes none of the other unit's registers, and reads none: run in two states
that agree on its own unit it leaves its own unit and `ERR` alike. -/
def Obligations.UnitsAreIndependent : Prop :=
  ∀ (i : Instr) (s t : State), exec i s = .next t →
    (unitOf i = .base64 → SameBlowfish s t ∧
      ∀ u, SameBase64 s u → ∃ v, exec i u = .next v ∧ SameBase64 t v ∧ t.ERR = v.ERR) ∧
    (unitOf i = .blowfish → SameBase64 s t ∧
      ∀ u, SameBlowfish s u → ∃ v, exec i u = .next v ∧ SameBlowfish t v ∧ t.ERR = v.ERR)

/-- After a successful `BCRYPT`, a `SCRUB`, a failing command of the Blowfish unit and a reset, `P`, `S`,
`KEY` are zero and `KEYLEN = 0`. That a reset keeps the host's later events and the words it has is the
model's choice (log entry 5). -/
def Obligations.CleanAfterHashScrubErrorReset : Prop :=
  (∀ s t : State, exec .bcrypt s = .next t → t.Clean) ∧
  (∀ s t : State, exec .scrub s = .next t → t.Clean) ∧
  (∀ (i : Instr) (s t : State), unitOf i = .blowfish → exec i s = .next t → t.ERR ≠ 0 → t.Clean) ∧
  ∀ (s : State) (rest : List HostEvent), s.inbox = .reset :: rest →
    ∃ t, step s = .next t ∧ t.Clean ∧ t.inbox = rest ∧ t.replies = s.replies

/-- Every command and every host event of the spec's alphabet has a next state. A command leaves the host's
side of the port alone, and an accepted event is gone from it (the model's choice, log entries 1 and 2). -/
def Obligations.EveryEventHasNextState : Prop :=
  (∀ (i : Instr) (s : State), ∃ t, exec i s = .next t ∧ SamePort s t) ∧
  ∀ (s : State) (e : HostEvent) (rest : List HostEvent), s.inbox = e :: rest →
    (match e with
      | .reset => True
      | .read off width => off % 4 = 0 ∧ off < 0x1000 ∧ width = 32
      | .write off width _ => off % 4 = 0 ∧ off < 0x1000 ∧ width = 32) →
    ∃ t, step s = .next t ∧ t.inbox = rest

/-! ## The Base64 unit (40_base64.md) -/

/-- Rule R61: `CharVal` is the inverse of the alphabet, which is the string of rule R60; 192 codes are
outside it. -/
def Obligations.CharValInvertsAlphabet : Prop :=
  (∀ v : BitVec 6, charVal (alpha v) = some v) ∧ (∀ (c : Byte) (v : BitVec 6), charVal c = some v → alpha v = c) ∧
    ((List.range 256).filter fun c => (charVal (BitVec.ofNat 8 c)).isNone).length = 192 ∧
    (∀ c ∈ [0x00, 0x2B, 0x3D, 0x20, 0x2D], charVal c = none) ∧ (∀ c : Byte, 0x80 ≤ c.toNat → charVal c = none) ∧
    (List.range 64).map (fun v => alpha (BitVec.ofNat 6 v)) =
      "./ABCDEFGHIJKLMNOPQRSTUVWXYZabcdefghijklmnopqrstuvwxyz0123456789".toList.map
        fun (c : Char) => BitVec.ofNat 8 c.toNat

/-- Rule R62: the encoding by groups of three bytes is the encoding by bit strings, of `(4n + 2) div 3`
characters, at every length. -/
def Obligations.EncodeIsBitString : Prop :=
  ∀ bs : List Byte, enc bs = encByBits bs ∧ (enc bs).length = (4 * bs.length + 2) / 3

/-- Rule R63: decoding fails exactly on a length of 1 modulo 4 or a character outside the alphabet, and
is otherwise the decoding by bit strings, of `(3n) div 4` bytes. -/
def Obligations.DecodeIsBitString : Prop :=
  (∀ cs : List Byte, (cs.length % 4 = 1 ∨ ∃ c ∈ cs, charVal c = none) ↔ dec cs = none) ∧
    ∀ vs : List (BitVec 6), vs.length % 4 ≠ 1 →
      dec (vs.map alpha) = some (decByBits vs) ∧ (decByBits vs).length = 3 * vs.length / 4

/-- Decoding undoes encoding for every byte string. -/
def Obligations.DecodeUndoesEncode : Prop :=
  ∀ bs : List Byte, dec (enc bs) = some bs

/-- Encoding undoes decoding exactly where the surplus bits of the last character are zero, and otherwise
differs in the last character only. -/
def Obligations.EncodeUndoesDecodeUpToSurplus : Prop :=
  ∀ (vs : List (BitVec 6)) (bs : List Byte), dec (vs.map alpha) = some bs →
    (enc bs).length = vs.length ∧
    (∀ i, i + 1 < vs.length → (enc bs)[i]? = (vs.map alpha)[i]?) ∧
    (enc bs = vs.map alpha ↔
      ((vs.length % 4 = 2 → (vs.getLastD 0).toNat % 16 = 0) ∧ (vs.length % 4 = 3 → (vs.getLastD 0).toNat % 4 = 0)))

/-- `B64ENC n`: its word; its effect for `n` up to 24, with the characters from the result's end on kept;
its error above, which changes `ERR` only; and its example. -/
def Obligations.B64encResult : Prop :=
  ∀ (n : Nat) (s : State),
    (n < 64 → encode (.b64enc n) = BitVec.ofNat 32 (0x00000010 ||| (n <<< 8))) ∧
    (n ≤ 24 → ∃ X : Vector Byte 32,
      exec (.b64enc n) s = .next { s with CBUF := X, CLEN := BitVec.ofNat 6 ((4 * n + 2) / 3), ERR := 0 } ∧
      ∀ i : Fin 32, if i.val < (4 * n + 2) / 3 then some X[i] = (enc (s.BBUF.toList.take n))[i.val]? else X[i] = s.CBUF[i]) ∧
    (24 < n → exec (.b64enc n) s = .next { s with ERR := 7 }) ∧
    (s.BBUF.toList.take 4 = [0x01, 0x02, 0x03, 0x04] →
      ∃ t, exec (.b64enc 4) s = .next t ∧ t.CLEN = 6 ∧ t.CBUF.toList.take 6 = [0x2E, 0x4F, 0x47, 0x42, 0x2F, 0x2E])

/-- `B64DEC n`: its word; its effect where `n` is at most 32 and not 1 modulo 4 and every character is in
the alphabet, with the bytes from the result's end on kept; its errors, the length before the characters,
which change `ERR` only; and its example. -/
def Obligations.B64decResult : Prop :=
  ∀ (n : Nat) (s : State),
    (n < 64 → encode (.b64dec n) = BitVec.ofNat 32 (0x00000011 ||| (n <<< 8))) ∧
    (n ≤ 32 → n % 4 ≠ 1 → (∀ c ∈ s.CBUF.toList.take n, charVal c ≠ none) →
      ∃ (bs : List Byte) (X : Vector Byte 24), dec (s.CBUF.toList.take n) = some bs ∧
        exec (.b64dec n) s = .next { s with BBUF := X, BLEN := BitVec.ofNat 5 (3 * n / 4), ERR := 0 } ∧
        ∀ i : Fin 24, if i.val < 3 * n / 4 then some X[i] = bs[i.val]? else X[i] = s.BBUF[i]) ∧
    (n ≤ 32 → (n % 4 = 1 ∨ ∃ c ∈ s.CBUF.toList.take n, charVal c = none) →
      exec (.b64dec n) s = .next { s with ERR := 4 }) ∧
    (32 < n → exec (.b64dec n) s = .next { s with ERR := 7 }) ∧
    (s.CBUF.toList.take 2 = [0x4F, 0x7A] ∨ s.CBUF.toList.take 2 = [0x4F, 0x78] →
      ∃ t, exec (.b64dec 2) s = .next t ∧ t.BLEN = 1 ∧ t.BBUF[0] = 0x43)

/-- After a successful `B64ENC n`, `B64DEC CLEN` succeeds, leaves `BBUF` as it was and sets `BLEN` to `n`. -/
def Obligations.EncodeThenDecodeOnMachine : Prop :=
  ∀ (n : Nat) (s : State), n ≤ 24 →
    ∃ t u, exec (.b64enc n) s = .next t ∧ t.ERR = 0 ∧ exec (.b64dec t.CLEN.toNat) t = .next u ∧ u.ERR = 0 ∧
      u.BBUF = s.BBUF ∧ u.BLEN.toNat = n
end

