-- ==== Sys2Proof/Laws/Bytes.lean ====
section
/-!
SUPPORT. What the byte-order and byte-buffer operations of Machine/Bytes.lean do, said once: `BE32` and
`BYTE` are inverse, a buffer word reads back the word written, and a write leaves the other bytes alone.
-/

namespace Sys2Proof.Machine

@[simp] theorem byteOf_be32_zero (a b c d : Byte) : byteOf (be32 a b c d) 0 = a := by
  apply BitVec.eq_of_getLsbD_eq
  intro i hi
  interval_cases i <;> (simp only [be32, byteOf, BitVec.getLsbD_append, BitVec.getLsbD_extractLsb']; simp)

@[simp] theorem byteOf_be32_one (a b c d : Byte) : byteOf (be32 a b c d) 1 = b := by
  apply BitVec.eq_of_getLsbD_eq
  intro i hi
  interval_cases i <;> (simp only [be32, byteOf, BitVec.getLsbD_append, BitVec.getLsbD_extractLsb']; simp)

@[simp] theorem byteOf_be32_two (a b c d : Byte) : byteOf (be32 a b c d) 2 = c := by
  apply BitVec.eq_of_getLsbD_eq
  intro i hi
  interval_cases i <;> (simp only [be32, byteOf, BitVec.getLsbD_append, BitVec.getLsbD_extractLsb']; simp)

@[simp] theorem byteOf_be32_three (a b c d : Byte) : byteOf (be32 a b c d) 3 = d := by
  apply BitVec.eq_of_getLsbD_eq
  intro i hi
  interval_cases i <;> (simp only [be32, byteOf, BitVec.getLsbD_append, BitVec.getLsbD_extractLsb']; simp)

/-- A word is the `BE32` of its four bytes (00_scope.md rule R6). -/
@[simp] theorem be32_byteOf (w : Word) : be32 (byteOf w 0) (byteOf w 1) (byteOf w 2) (byteOf w 3) = w := by
  apply BitVec.eq_of_getLsbD_eq
  intro i hi
  interval_cases i <;> (simp only [be32, byteOf, BitVec.getLsbD_append, BitVec.getLsbD_extractLsb']; simp)

/-- Byte `j` after word `i` of a buffer is written. -/
theorem setBufWord_getElem {n : Nat} (X : Vector Byte n) (i : Nat) (v : Word) (h : 4 * i + 3 < n) (j : Nat)
    (hj : j < n) : (setBufWord X i v h)[j] = if j / 4 = i then byteOf v (j % 4) else X[j] := by
  simp only [setBufWord, Vector.getElem_set]
  by_cases hd : j / 4 = i
  · have : j = 4 * i ∨ j = 4 * i + 1 ∨ j = 4 * i + 2 ∨ j = 4 * i + 3 := by omega
    rcases this with rfl | rfl | rfl | rfl
    · have : 4 * i % 4 = 0 := by omega
      simp [hd, this]
    · have : (4 * i + 1) % 4 = 1 := by omega
      simp [hd, this]
    · have : (4 * i + 2) % 4 = 2 := by omega
      simp [hd, this]
    · have : (4 * i + 3) % 4 = 3 := by omega
      simp [hd, this]
  · rw [if_neg (by omega), if_neg (by omega), if_neg (by omega), if_neg (by omega), if_neg hd]

/-- A buffer word reads back the word written to it. -/
@[simp] theorem bufWord_setBufWord {n : Nat} (X : Vector Byte n) (i : Nat) (v : Word) (h h' : 4 * i + 3 < n) :
    bufWord (setBufWord X i v h) i h' = v := by
  have h0 : 4 * i % 4 = 0 := by omega
  have h1 : (4 * i + 1) % 4 = 1 := by omega
  have h2 : (4 * i + 2) % 4 = 2 := by omega
  have h3 : (4 * i + 3) % 4 = 3 := by omega
  simp only [bufWord, setBufWord_getElem, h0, h1, h2, h3]
  rw [if_pos (by omega), if_pos (by omega), if_pos (by omega), if_pos (by omega)]
  exact be32_byteOf v

/-- A buffer word is as before when another word is written. -/
theorem bufWord_setBufWord_of_ne {n : Nat} (X : Vector Byte n) (i k : Nat) (v : Word) (h : 4 * i + 3 < n)
    (hk : 4 * k + 3 < n) (hne : k ≠ i) : bufWord (setBufWord X i v h) k hk = bufWord X k hk := by
  simp only [bufWord, setBufWord_getElem]
  rw [if_neg (by omega), if_neg (by omega), if_neg (by omega), if_neg (by omega)]

/-- Byte `i` after the first bytes of a buffer are replaced by `bs`. -/
@[simp] theorem writeFront_getElem {n : Nat} (X : Vector Byte n) (bs : List Byte) (i : Nat) (hi : i < n) :
    (writeFront X bs)[i] = bs.getD i X[i] := by
  simp [writeFront]

end Sys2Proof.Machine
end

