-- ==== Sys2Proof/Laws/Cipher.lean ====
section
/-!
SUPPORT. Small facts about the pure cipher functions of Machine/Cipher.lean: reading a buffer inside its
range, the positions of the key stream, and what one `put` does to the flat order of the subkey words.
-/

namespace Sys2Proof.Machine

/-- Inside the buffer `bufByte` is the buffer's byte; the default is not reached (log entry 9). -/
@[simp] theorem bufByte_of_lt {n : Nat} (buf : Vector Byte n) (j : Nat) (h : j < n) : bufByte buf j = buf[j] := by
  simp [bufByte, h]

@[simp] theorem streamWord_pos {n : Nat} (buf : Vector Byte n) (len j : Nat) :
    (streamWord buf len j).2 = (j + 4) % len := rfl

@[simp] theorem mixData_none (c : Chain) : mixData none c = (c.block, c.pos) := rfl

@[simp] theorem expandSlot_block (data : Option (Vector Byte 16)) (c : Chain) (slot : Slot) :
    (expandSlot data c slot).block = encryptBlock c.keys (mixData data c).1 := rfl

@[simp] theorem expandSlot_pos (data : Option (Vector Byte 16)) (c : Chain) (slot : Slot) :
    (expandSlot data c slot).pos = (mixData data c).2 := rfl

@[simp] theorem expandSlot_keys (data : Option (Vector Byte 16)) (c : Chain) (slot : Slot) :
    (expandSlot data c slot).keys = c.keys.put slot (encryptBlock c.keys (mixData data c).1) := rfl

theorem slots_length : slots.length = 521 := by decide +kernel

/-- The number of a slot in the order of `slots`. -/
def slotNumber : Slot → Nat
  | .p i => i.val
  | .s b j => 9 + 128 * b.val + j.val

/-- `slots` lists the slots in the order of their numbers. -/
theorem slots_eq_ordered : slots.map slotNumber = List.range 521 := by decide +kernel

theorem slots_nodup : slots.Nodup := by
  have h : (slots.map slotNumber).Nodup := by rw [slots_eq_ordered]; exact List.nodup_range
  exact h.of_map _

end Sys2Proof.Machine
end

