-- ==== Sys2Proof/Laws/Codec.lean ====
section
/-!
SUPPORT. The groups of the Base64 packing of Machine/Codec.lean: the bytes of a group come back from its
6-bit values (40_base64.md rules R62 and R63).
-/

namespace Sys2Proof.Machine

@[simp] theorem octet0_sextets (b0 b1 : Byte) : octet0 (sextet0 b0) (sextet1 b0 b1) = b0 := by
  apply BitVec.eq_of_getLsbD_eq
  intro i hi
  interval_cases i <;>
    (simp only [octet0, sextet0, sextet1, BitVec.getLsbD_append, BitVec.getLsbD_extractLsb']; simp)

@[simp] theorem octet1_sextets (b0 b1 b2 : Byte) : octet1 (sextet1 b0 b1) (sextet2 b1 b2) = b1 := by
  apply BitVec.eq_of_getLsbD_eq
  intro i hi
  interval_cases i <;>
    (simp only [octet1, sextet1, sextet2, BitVec.getLsbD_append, BitVec.getLsbD_extractLsb']; simp)

@[simp] theorem octet2_sextets (b1 b2 : Byte) : octet2 (sextet2 b1 b2) (sextet3 b2) = b2 := by
  apply BitVec.eq_of_getLsbD_eq
  intro i hi
  interval_cases i <;>
    (simp only [octet2, sextet2, sextet3, BitVec.getLsbD_append, BitVec.getLsbD_extractLsb']; simp)

@[simp] theorem sextet0_octets (v0 v1 : BitVec 6) : sextet0 (octet0 v0 v1) = v0 := by
  apply BitVec.eq_of_getLsbD_eq
  intro i hi
  interval_cases i <;>
    (simp only [octet0, sextet0, BitVec.getLsbD_append, BitVec.getLsbD_extractLsb']; simp)

@[simp] theorem sextet1_octets (v0 v1 v2 : BitVec 6) : sextet1 (octet0 v0 v1) (octet1 v1 v2) = v1 := by
  apply BitVec.eq_of_getLsbD_eq
  intro i hi
  interval_cases i <;>
    (simp only [octet0, octet1, sextet1, BitVec.getLsbD_append, BitVec.getLsbD_extractLsb']; simp)

@[simp] theorem sextet2_octets (v1 v2 v3 : BitVec 6) : sextet2 (octet1 v1 v2) (octet2 v2 v3) = v2 := by
  apply BitVec.eq_of_getLsbD_eq
  intro i hi
  interval_cases i <;>
    (simp only [octet1, octet2, sextet2, BitVec.getLsbD_append, BitVec.getLsbD_extractLsb']; simp)

@[simp] theorem sextet3_octets (v2 v3 : BitVec 6) : sextet3 (octet2 v2 v3) = v3 := by
  apply BitVec.eq_of_getLsbD_eq
  intro i hi
  interval_cases i <;>
    (simp only [octet2, sextet3, BitVec.getLsbD_append, BitVec.getLsbD_extractLsb']; simp)

end Sys2Proof.Machine
end

