-- ==== Sys2Proof/Laws/State.lean ====
section
/-!
SUPPORT. One lemma per field per named update of the state (Machine/Ops.lean): what the update writes and
what it leaves. All hold by rfl or from such lemmas, so no later proof unfolds a record update.
-/

namespace Sys2Proof.Machine

@[simp] theorem State.reset_P : State.reset.P = Vector.replicate 18 0 := rfl
@[simp] theorem State.reset_S : State.reset.S = Vector.replicate 4 (Vector.replicate 256 0) := rfl
@[simp] theorem State.reset_KEY : State.reset.KEY = Vector.replicate 72 0 := rfl
@[simp] theorem State.reset_KEYLEN : State.reset.KEYLEN = 0 := rfl
@[simp] theorem State.reset_SALT : State.reset.SALT = Vector.replicate 16 0 := rfl
@[simp] theorem State.reset_SALTLEN : State.reset.SALTLEN = 0 := rfl
@[simp] theorem State.reset_COST : State.reset.COST = 0 := rfl
@[simp] theorem State.reset_L : State.reset.L = 0 := rfl
@[simp] theorem State.reset_R : State.reset.R = 0 := rfl
@[simp] theorem State.reset_DIGEST : State.reset.DIGEST = Vector.replicate 24 0 := rfl
@[simp] theorem State.reset_BBUF : State.reset.BBUF = Vector.replicate 24 0 := rfl
@[simp] theorem State.reset_BLEN : State.reset.BLEN = 0 := rfl
@[simp] theorem State.reset_CBUF : State.reset.CBUF = Vector.replicate 32 0 := rfl
@[simp] theorem State.reset_CLEN : State.reset.CLEN = 0 := rfl
@[simp] theorem State.reset_ERR : State.reset.ERR = 0 := rfl
@[simp] theorem State.reset_inbox : State.reset.inbox = [] := rfl
@[simp] theorem State.reset_replies : State.reset.replies = [] := rfl

@[simp] theorem State.setSubkeys_P (s : State) (k : Subkeys) : (s.setSubkeys k).P = k.P := rfl
@[simp] theorem State.setSubkeys_S (s : State) (k : Subkeys) : (s.setSubkeys k).S = k.S := rfl
@[simp] theorem State.setSubkeys_KEY (s : State) (k : Subkeys) : (s.setSubkeys k).KEY = s.KEY := rfl
@[simp] theorem State.setSubkeys_KEYLEN (s : State) (k : Subkeys) : (s.setSubkeys k).KEYLEN = s.KEYLEN := rfl
@[simp] theorem State.setSubkeys_SALT (s : State) (k : Subkeys) : (s.setSubkeys k).SALT = s.SALT := rfl
@[simp] theorem State.setSubkeys_SALTLEN (s : State) (k : Subkeys) : (s.setSubkeys k).SALTLEN = s.SALTLEN := rfl
@[simp] theorem State.setSubkeys_COST (s : State) (k : Subkeys) : (s.setSubkeys k).COST = s.COST := rfl
@[simp] theorem State.setSubkeys_L (s : State) (k : Subkeys) : (s.setSubkeys k).L = s.L := rfl
@[simp] theorem State.setSubkeys_R (s : State) (k : Subkeys) : (s.setSubkeys k).R = s.R := rfl
@[simp] theorem State.setSubkeys_DIGEST (s : State) (k : Subkeys) : (s.setSubkeys k).DIGEST = s.DIGEST := rfl
@[simp] theorem State.setSubkeys_BBUF (s : State) (k : Subkeys) : (s.setSubkeys k).BBUF = s.BBUF := rfl
@[simp] theorem State.setSubkeys_BLEN (s : State) (k : Subkeys) : (s.setSubkeys k).BLEN = s.BLEN := rfl
@[simp] theorem State.setSubkeys_CBUF (s : State) (k : Subkeys) : (s.setSubkeys k).CBUF = s.CBUF := rfl
@[simp] theorem State.setSubkeys_CLEN (s : State) (k : Subkeys) : (s.setSubkeys k).CLEN = s.CLEN := rfl
@[simp] theorem State.setSubkeys_ERR (s : State) (k : Subkeys) : (s.setSubkeys k).ERR = s.ERR := rfl
@[simp] theorem State.setSubkeys_inbox (s : State) (k : Subkeys) : (s.setSubkeys k).inbox = s.inbox := rfl
@[simp] theorem State.setSubkeys_replies (s : State) (k : Subkeys) : (s.setSubkeys k).replies = s.replies := rfl

@[simp] theorem State.setKey_P (s : State) (v : Vector Byte 72) : (s.setKey v).P = s.P := rfl
@[simp] theorem State.setKey_S (s : State) (v : Vector Byte 72) : (s.setKey v).S = s.S := rfl
@[simp] theorem State.setKey_KEY (s : State) (v : Vector Byte 72) : (s.setKey v).KEY = v := rfl
@[simp] theorem State.setKey_KEYLEN (s : State) (v : Vector Byte 72) : (s.setKey v).KEYLEN = s.KEYLEN := rfl
@[simp] theorem State.setKey_SALT (s : State) (v : Vector Byte 72) : (s.setKey v).SALT = s.SALT := rfl
@[simp] theorem State.setKey_SALTLEN (s : State) (v : Vector Byte 72) : (s.setKey v).SALTLEN = s.SALTLEN := rfl
@[simp] theorem State.setKey_COST (s : State) (v : Vector Byte 72) : (s.setKey v).COST = s.COST := rfl
@[simp] theorem State.setKey_L (s : State) (v : Vector Byte 72) : (s.setKey v).L = s.L := rfl
@[simp] theorem State.setKey_R (s : State) (v : Vector Byte 72) : (s.setKey v).R = s.R := rfl
@[simp] theorem State.setKey_DIGEST (s : State) (v : Vector Byte 72) : (s.setKey v).DIGEST = s.DIGEST := rfl
@[simp] theorem State.setKey_BBUF (s : State) (v : Vector Byte 72) : (s.setKey v).BBUF = s.BBUF := rfl
@[simp] theorem State.setKey_BLEN (s : State) (v : Vector Byte 72) : (s.setKey v).BLEN = s.BLEN := rfl
@[simp] theorem State.setKey_CBUF (s : State) (v : Vector Byte 72) : (s.setKey v).CBUF = s.CBUF := rfl
@[simp] theorem State.setKey_CLEN (s : State) (v : Vector Byte 72) : (s.setKey v).CLEN = s.CLEN := rfl
@[simp] theorem State.setKey_ERR (s : State) (v : Vector Byte 72) : (s.setKey v).ERR = s.ERR := rfl
@[simp] theorem State.setKey_inbox (s : State) (v : Vector Byte 72) : (s.setKey v).inbox = s.inbox := rfl
@[simp] theorem State.setKey_replies (s : State) (v : Vector Byte 72) : (s.setKey v).replies = s.replies := rfl

@[simp] theorem State.setKeylen_P (s : State) (v : Word) : (s.setKeylen v).P = s.P := rfl
@[simp] theorem State.setKeylen_S (s : State) (v : Word) : (s.setKeylen v).S = s.S := rfl
@[simp] theorem State.setKeylen_KEY (s : State) (v : Word) : (s.setKeylen v).KEY = s.KEY := rfl
@[simp] theorem State.setKeylen_KEYLEN (s : State) (v : Word) : (s.setKeylen v).KEYLEN = v := rfl
@[simp] theorem State.setKeylen_SALT (s : State) (v : Word) : (s.setKeylen v).SALT = s.SALT := rfl
@[simp] theorem State.setKeylen_SALTLEN (s : State) (v : Word) : (s.setKeylen v).SALTLEN = s.SALTLEN := rfl
@[simp] theorem State.setKeylen_COST (s : State) (v : Word) : (s.setKeylen v).COST = s.COST := rfl
@[simp] theorem State.setKeylen_L (s : State) (v : Word) : (s.setKeylen v).L = s.L := rfl
@[simp] theorem State.setKeylen_R (s : State) (v : Word) : (s.setKeylen v).R = s.R := rfl
@[simp] theorem State.setKeylen_DIGEST (s : State) (v : Word) : (s.setKeylen v).DIGEST = s.DIGEST := rfl
@[simp] theorem State.setKeylen_BBUF (s : State) (v : Word) : (s.setKeylen v).BBUF = s.BBUF := rfl
@[simp] theorem State.setKeylen_BLEN (s : State) (v : Word) : (s.setKeylen v).BLEN = s.BLEN := rfl
@[simp] theorem State.setKeylen_CBUF (s : State) (v : Word) : (s.setKeylen v).CBUF = s.CBUF := rfl
@[simp] theorem State.setKeylen_CLEN (s : State) (v : Word) : (s.setKeylen v).CLEN = s.CLEN := rfl
@[simp] theorem State.setKeylen_ERR (s : State) (v : Word) : (s.setKeylen v).ERR = s.ERR := rfl
@[simp] theorem State.setKeylen_inbox (s : State) (v : Word) : (s.setKeylen v).inbox = s.inbox := rfl
@[simp] theorem State.setKeylen_replies (s : State) (v : Word) : (s.setKeylen v).replies = s.replies := rfl

@[simp] theorem State.setSalt_P (s : State) (v : Vector Byte 16) : (s.setSalt v).P = s.P := rfl
@[simp] theorem State.setSalt_S (s : State) (v : Vector Byte 16) : (s.setSalt v).S = s.S := rfl
@[simp] theorem State.setSalt_KEY (s : State) (v : Vector Byte 16) : (s.setSalt v).KEY = s.KEY := rfl
@[simp] theorem State.setSalt_KEYLEN (s : State) (v : Vector Byte 16) : (s.setSalt v).KEYLEN = s.KEYLEN := rfl
@[simp] theorem State.setSalt_SALT (s : State) (v : Vector Byte 16) : (s.setSalt v).SALT = v := rfl
@[simp] theorem State.setSalt_SALTLEN (s : State) (v : Vector Byte 16) : (s.setSalt v).SALTLEN = s.SALTLEN := rfl
@[simp] theorem State.setSalt_COST (s : State) (v : Vector Byte 16) : (s.setSalt v).COST = s.COST := rfl
@[simp] theorem State.setSalt_L (s : State) (v : Vector Byte 16) : (s.setSalt v).L = s.L := rfl
@[simp] theorem State.setSalt_R (s : State) (v : Vector Byte 16) : (s.setSalt v).R = s.R := rfl
@[simp] theorem State.setSalt_DIGEST (s : State) (v : Vector Byte 16) : (s.setSalt v).DIGEST = s.DIGEST := rfl
@[simp] theorem State.setSalt_BBUF (s : State) (v : Vector Byte 16) : (s.setSalt v).BBUF = s.BBUF := rfl
@[simp] theorem State.setSalt_BLEN (s : State) (v : Vector Byte 16) : (s.setSalt v).BLEN = s.BLEN := rfl
@[simp] theorem State.setSalt_CBUF (s : State) (v : Vector Byte 16) : (s.setSalt v).CBUF = s.CBUF := rfl
@[simp] theorem State.setSalt_CLEN (s : State) (v : Vector Byte 16) : (s.setSalt v).CLEN = s.CLEN := rfl
@[simp] theorem State.setSalt_ERR (s : State) (v : Vector Byte 16) : (s.setSalt v).ERR = s.ERR := rfl
@[simp] theorem State.setSalt_inbox (s : State) (v : Vector Byte 16) : (s.setSalt v).inbox = s.inbox := rfl
@[simp] theorem State.setSalt_replies (s : State) (v : Vector Byte 16) : (s.setSalt v).replies = s.replies := rfl

@[simp] theorem State.setSaltlen_P (s : State) (v : Word) : (s.setSaltlen v).P = s.P := rfl
@[simp] theorem State.setSaltlen_S (s : State) (v : Word) : (s.setSaltlen v).S = s.S := rfl
@[simp] theorem State.setSaltlen_KEY (s : State) (v : Word) : (s.setSaltlen v).KEY = s.KEY := rfl
@[simp] theorem State.setSaltlen_KEYLEN (s : State) (v : Word) : (s.setSaltlen v).KEYLEN = s.KEYLEN := rfl
@[simp] theorem State.setSaltlen_SALT (s : State) (v : Word) : (s.setSaltlen v).SALT = s.SALT := rfl
@[simp] theorem State.setSaltlen_SALTLEN (s : State) (v : Word) : (s.setSaltlen v).SALTLEN = v := rfl
@[simp] theorem State.setSaltlen_COST (s : State) (v : Word) : (s.setSaltlen v).COST = s.COST := rfl
@[simp] theorem State.setSaltlen_L (s : State) (v : Word) : (s.setSaltlen v).L = s.L := rfl
@[simp] theorem State.setSaltlen_R (s : State) (v : Word) : (s.setSaltlen v).R = s.R := rfl
@[simp] theorem State.setSaltlen_DIGEST (s : State) (v : Word) : (s.setSaltlen v).DIGEST = s.DIGEST := rfl
@[simp] theorem State.setSaltlen_BBUF (s : State) (v : Word) : (s.setSaltlen v).BBUF = s.BBUF := rfl
@[simp] theorem State.setSaltlen_BLEN (s : State) (v : Word) : (s.setSaltlen v).BLEN = s.BLEN := rfl
@[simp] theorem State.setSaltlen_CBUF (s : State) (v : Word) : (s.setSaltlen v).CBUF = s.CBUF := rfl
@[simp] theorem State.setSaltlen_CLEN (s : State) (v : Word) : (s.setSaltlen v).CLEN = s.CLEN := rfl
@[simp] theorem State.setSaltlen_ERR (s : State) (v : Word) : (s.setSaltlen v).ERR = s.ERR := rfl
@[simp] theorem State.setSaltlen_inbox (s : State) (v : Word) : (s.setSaltlen v).inbox = s.inbox := rfl
@[simp] theorem State.setSaltlen_replies (s : State) (v : Word) : (s.setSaltlen v).replies = s.replies := rfl

@[simp] theorem State.setCost_P (s : State) (v : Word) : (s.setCost v).P = s.P := rfl
@[simp] theorem State.setCost_S (s : State) (v : Word) : (s.setCost v).S = s.S := rfl
@[simp] theorem State.setCost_KEY (s : State) (v : Word) : (s.setCost v).KEY = s.KEY := rfl
@[simp] theorem State.setCost_KEYLEN (s : State) (v : Word) : (s.setCost v).KEYLEN = s.KEYLEN := rfl
@[simp] theorem State.setCost_SALT (s : State) (v : Word) : (s.setCost v).SALT = s.SALT := rfl
@[simp] theorem State.setCost_SALTLEN (s : State) (v : Word) : (s.setCost v).SALTLEN = s.SALTLEN := rfl
@[simp] theorem State.setCost_COST (s : State) (v : Word) : (s.setCost v).COST = v := rfl
@[simp] theorem State.setCost_L (s : State) (v : Word) : (s.setCost v).L = s.L := rfl
@[simp] theorem State.setCost_R (s : State) (v : Word) : (s.setCost v).R = s.R := rfl
@[simp] theorem State.setCost_DIGEST (s : State) (v : Word) : (s.setCost v).DIGEST = s.DIGEST := rfl
@[simp] theorem State.setCost_BBUF (s : State) (v : Word) : (s.setCost v).BBUF = s.BBUF := rfl
@[simp] theorem State.setCost_BLEN (s : State) (v : Word) : (s.setCost v).BLEN = s.BLEN := rfl
@[simp] theorem State.setCost_CBUF (s : State) (v : Word) : (s.setCost v).CBUF = s.CBUF := rfl
@[simp] theorem State.setCost_CLEN (s : State) (v : Word) : (s.setCost v).CLEN = s.CLEN := rfl
@[simp] theorem State.setCost_ERR (s : State) (v : Word) : (s.setCost v).ERR = s.ERR := rfl
@[simp] theorem State.setCost_inbox (s : State) (v : Word) : (s.setCost v).inbox = s.inbox := rfl
@[simp] theorem State.setCost_replies (s : State) (v : Word) : (s.setCost v).replies = s.replies := rfl

@[simp] theorem State.setL_P (s : State) (v : Word) : (s.setL v).P = s.P := rfl
@[simp] theorem State.setL_S (s : State) (v : Word) : (s.setL v).S = s.S := rfl
@[simp] theorem State.setL_KEY (s : State) (v : Word) : (s.setL v).KEY = s.KEY := rfl
@[simp] theorem State.setL_KEYLEN (s : State) (v : Word) : (s.setL v).KEYLEN = s.KEYLEN := rfl
@[simp] theorem State.setL_SALT (s : State) (v : Word) : (s.setL v).SALT = s.SALT := rfl
@[simp] theorem State.setL_SALTLEN (s : State) (v : Word) : (s.setL v).SALTLEN = s.SALTLEN := rfl
@[simp] theorem State.setL_COST (s : State) (v : Word) : (s.setL v).COST = s.COST := rfl
@[simp] theorem State.setL_L (s : State) (v : Word) : (s.setL v).L = v := rfl
@[simp] theorem State.setL_R (s : State) (v : Word) : (s.setL v).R = s.R := rfl
@[simp] theorem State.setL_DIGEST (s : State) (v : Word) : (s.setL v).DIGEST = s.DIGEST := rfl
@[simp] theorem State.setL_BBUF (s : State) (v : Word) : (s.setL v).BBUF = s.BBUF := rfl
@[simp] theorem State.setL_BLEN (s : State) (v : Word) : (s.setL v).BLEN = s.BLEN := rfl
@[simp] theorem State.setL_CBUF (s : State) (v : Word) : (s.setL v).CBUF = s.CBUF := rfl
@[simp] theorem State.setL_CLEN (s : State) (v : Word) : (s.setL v).CLEN = s.CLEN := rfl
@[simp] theorem State.setL_ERR (s : State) (v : Word) : (s.setL v).ERR = s.ERR := rfl
@[simp] theorem State.setL_inbox (s : State) (v : Word) : (s.setL v).inbox = s.inbox := rfl
@[simp] theorem State.setL_replies (s : State) (v : Word) : (s.setL v).replies = s.replies := rfl

@[simp] theorem State.setR_P (s : State) (v : Word) : (s.setR v).P = s.P := rfl
@[simp] theorem State.setR_S (s : State) (v : Word) : (s.setR v).S = s.S := rfl
@[simp] theorem State.setR_KEY (s : State) (v : Word) : (s.setR v).KEY = s.KEY := rfl
@[simp] theorem State.setR_KEYLEN (s : State) (v : Word) : (s.setR v).KEYLEN = s.KEYLEN := rfl
@[simp] theorem State.setR_SALT (s : State) (v : Word) : (s.setR v).SALT = s.SALT := rfl
@[simp] theorem State.setR_SALTLEN (s : State) (v : Word) : (s.setR v).SALTLEN = s.SALTLEN := rfl
@[simp] theorem State.setR_COST (s : State) (v : Word) : (s.setR v).COST = s.COST := rfl
@[simp] theorem State.setR_L (s : State) (v : Word) : (s.setR v).L = s.L := rfl
@[simp] theorem State.setR_R (s : State) (v : Word) : (s.setR v).R = v := rfl
@[simp] theorem State.setR_DIGEST (s : State) (v : Word) : (s.setR v).DIGEST = s.DIGEST := rfl
@[simp] theorem State.setR_BBUF (s : State) (v : Word) : (s.setR v).BBUF = s.BBUF := rfl
@[simp] theorem State.setR_BLEN (s : State) (v : Word) : (s.setR v).BLEN = s.BLEN := rfl
@[simp] theorem State.setR_CBUF (s : State) (v : Word) : (s.setR v).CBUF = s.CBUF := rfl
@[simp] theorem State.setR_CLEN (s : State) (v : Word) : (s.setR v).CLEN = s.CLEN := rfl
@[simp] theorem State.setR_ERR (s : State) (v : Word) : (s.setR v).ERR = s.ERR := rfl
@[simp] theorem State.setR_inbox (s : State) (v : Word) : (s.setR v).inbox = s.inbox := rfl
@[simp] theorem State.setR_replies (s : State) (v : Word) : (s.setR v).replies = s.replies := rfl

@[simp] theorem State.setBlock_P (s : State) (x : Block) : (s.setBlock x).P = s.P := rfl
@[simp] theorem State.setBlock_S (s : State) (x : Block) : (s.setBlock x).S = s.S := rfl
@[simp] theorem State.setBlock_KEY (s : State) (x : Block) : (s.setBlock x).KEY = s.KEY := rfl
@[simp] theorem State.setBlock_KEYLEN (s : State) (x : Block) : (s.setBlock x).KEYLEN = s.KEYLEN := rfl
@[simp] theorem State.setBlock_SALT (s : State) (x : Block) : (s.setBlock x).SALT = s.SALT := rfl
@[simp] theorem State.setBlock_SALTLEN (s : State) (x : Block) : (s.setBlock x).SALTLEN = s.SALTLEN := rfl
@[simp] theorem State.setBlock_COST (s : State) (x : Block) : (s.setBlock x).COST = s.COST := rfl
@[simp] theorem State.setBlock_L (s : State) (x : Block) : (s.setBlock x).L = x.1 := rfl
@[simp] theorem State.setBlock_R (s : State) (x : Block) : (s.setBlock x).R = x.2 := rfl
@[simp] theorem State.setBlock_DIGEST (s : State) (x : Block) : (s.setBlock x).DIGEST = s.DIGEST := rfl
@[simp] theorem State.setBlock_BBUF (s : State) (x : Block) : (s.setBlock x).BBUF = s.BBUF := rfl
@[simp] theorem State.setBlock_BLEN (s : State) (x : Block) : (s.setBlock x).BLEN = s.BLEN := rfl
@[simp] theorem State.setBlock_CBUF (s : State) (x : Block) : (s.setBlock x).CBUF = s.CBUF := rfl
@[simp] theorem State.setBlock_CLEN (s : State) (x : Block) : (s.setBlock x).CLEN = s.CLEN := rfl
@[simp] theorem State.setBlock_ERR (s : State) (x : Block) : (s.setBlock x).ERR = s.ERR := rfl
@[simp] theorem State.setBlock_inbox (s : State) (x : Block) : (s.setBlock x).inbox = s.inbox := rfl
@[simp] theorem State.setBlock_replies (s : State) (x : Block) : (s.setBlock x).replies = s.replies := rfl

@[simp] theorem State.setDigest_P (s : State) (v : Vector Byte 24) : (s.setDigest v).P = s.P := rfl
@[simp] theorem State.setDigest_S (s : State) (v : Vector Byte 24) : (s.setDigest v).S = s.S := rfl
@[simp] theorem State.setDigest_KEY (s : State) (v : Vector Byte 24) : (s.setDigest v).KEY = s.KEY := rfl
@[simp] theorem State.setDigest_KEYLEN (s : State) (v : Vector Byte 24) : (s.setDigest v).KEYLEN = s.KEYLEN := rfl
@[simp] theorem State.setDigest_SALT (s : State) (v : Vector Byte 24) : (s.setDigest v).SALT = s.SALT := rfl
@[simp] theorem State.setDigest_SALTLEN (s : State) (v : Vector Byte 24) : (s.setDigest v).SALTLEN = s.SALTLEN := rfl
@[simp] theorem State.setDigest_COST (s : State) (v : Vector Byte 24) : (s.setDigest v).COST = s.COST := rfl
@[simp] theorem State.setDigest_L (s : State) (v : Vector Byte 24) : (s.setDigest v).L = s.L := rfl
@[simp] theorem State.setDigest_R (s : State) (v : Vector Byte 24) : (s.setDigest v).R = s.R := rfl
@[simp] theorem State.setDigest_DIGEST (s : State) (v : Vector Byte 24) : (s.setDigest v).DIGEST = v := rfl
@[simp] theorem State.setDigest_BBUF (s : State) (v : Vector Byte 24) : (s.setDigest v).BBUF = s.BBUF := rfl
@[simp] theorem State.setDigest_BLEN (s : State) (v : Vector Byte 24) : (s.setDigest v).BLEN = s.BLEN := rfl
@[simp] theorem State.setDigest_CBUF (s : State) (v : Vector Byte 24) : (s.setDigest v).CBUF = s.CBUF := rfl
@[simp] theorem State.setDigest_CLEN (s : State) (v : Vector Byte 24) : (s.setDigest v).CLEN = s.CLEN := rfl
@[simp] theorem State.setDigest_ERR (s : State) (v : Vector Byte 24) : (s.setDigest v).ERR = s.ERR := rfl
@[simp] theorem State.setDigest_inbox (s : State) (v : Vector Byte 24) : (s.setDigest v).inbox = s.inbox := rfl
@[simp] theorem State.setDigest_replies (s : State) (v : Vector Byte 24) : (s.setDigest v).replies = s.replies := rfl

@[simp] theorem State.setBbuf_P (s : State) (v : Vector Byte 24) : (s.setBbuf v).P = s.P := rfl
@[simp] theorem State.setBbuf_S (s : State) (v : Vector Byte 24) : (s.setBbuf v).S = s.S := rfl
@[simp] theorem State.setBbuf_KEY (s : State) (v : Vector Byte 24) : (s.setBbuf v).KEY = s.KEY := rfl
@[simp] theorem State.setBbuf_KEYLEN (s : State) (v : Vector Byte 24) : (s.setBbuf v).KEYLEN = s.KEYLEN := rfl
@[simp] theorem State.setBbuf_SALT (s : State) (v : Vector Byte 24) : (s.setBbuf v).SALT = s.SALT := rfl
@[simp] theorem State.setBbuf_SALTLEN (s : State) (v : Vector Byte 24) : (s.setBbuf v).SALTLEN = s.SALTLEN := rfl
@[simp] theorem State.setBbuf_COST (s : State) (v : Vector Byte 24) : (s.setBbuf v).COST = s.COST := rfl
@[simp] theorem State.setBbuf_L (s : State) (v : Vector Byte 24) : (s.setBbuf v).L = s.L := rfl
@[simp] theorem State.setBbuf_R (s : State) (v : Vector Byte 24) : (s.setBbuf v).R = s.R := rfl
@[simp] theorem State.setBbuf_DIGEST (s : State) (v : Vector Byte 24) : (s.setBbuf v).DIGEST = s.DIGEST := rfl
@[simp] theorem State.setBbuf_BBUF (s : State) (v : Vector Byte 24) : (s.setBbuf v).BBUF = v := rfl
@[simp] theorem State.setBbuf_BLEN (s : State) (v : Vector Byte 24) : (s.setBbuf v).BLEN = s.BLEN := rfl
@[simp] theorem State.setBbuf_CBUF (s : State) (v : Vector Byte 24) : (s.setBbuf v).CBUF = s.CBUF := rfl
@[simp] theorem State.setBbuf_CLEN (s : State) (v : Vector Byte 24) : (s.setBbuf v).CLEN = s.CLEN := rfl
@[simp] theorem State.setBbuf_ERR (s : State) (v : Vector Byte 24) : (s.setBbuf v).ERR = s.ERR := rfl
@[simp] theorem State.setBbuf_inbox (s : State) (v : Vector Byte 24) : (s.setBbuf v).inbox = s.inbox := rfl
@[simp] theorem State.setBbuf_replies (s : State) (v : Vector Byte 24) : (s.setBbuf v).replies = s.replies := rfl

@[simp] theorem State.setCbuf_P (s : State) (v : Vector Byte 32) : (s.setCbuf v).P = s.P := rfl
@[simp] theorem State.setCbuf_S (s : State) (v : Vector Byte 32) : (s.setCbuf v).S = s.S := rfl
@[simp] theorem State.setCbuf_KEY (s : State) (v : Vector Byte 32) : (s.setCbuf v).KEY = s.KEY := rfl
@[simp] theorem State.setCbuf_KEYLEN (s : State) (v : Vector Byte 32) : (s.setCbuf v).KEYLEN = s.KEYLEN := rfl
@[simp] theorem State.setCbuf_SALT (s : State) (v : Vector Byte 32) : (s.setCbuf v).SALT = s.SALT := rfl
@[simp] theorem State.setCbuf_SALTLEN (s : State) (v : Vector Byte 32) : (s.setCbuf v).SALTLEN = s.SALTLEN := rfl
@[simp] theorem State.setCbuf_COST (s : State) (v : Vector Byte 32) : (s.setCbuf v).COST = s.COST := rfl
@[simp] theorem State.setCbuf_L (s : State) (v : Vector Byte 32) : (s.setCbuf v).L = s.L := rfl
@[simp] theorem State.setCbuf_R (s : State) (v : Vector Byte 32) : (s.setCbuf v).R = s.R := rfl
@[simp] theorem State.setCbuf_DIGEST (s : State) (v : Vector Byte 32) : (s.setCbuf v).DIGEST = s.DIGEST := rfl
@[simp] theorem State.setCbuf_BBUF (s : State) (v : Vector Byte 32) : (s.setCbuf v).BBUF = s.BBUF := rfl
@[simp] theorem State.setCbuf_BLEN (s : State) (v : Vector Byte 32) : (s.setCbuf v).BLEN = s.BLEN := rfl
@[simp] theorem State.setCbuf_CBUF (s : State) (v : Vector Byte 32) : (s.setCbuf v).CBUF = v := rfl
@[simp] theorem State.setCbuf_CLEN (s : State) (v : Vector Byte 32) : (s.setCbuf v).CLEN = s.CLEN := rfl
@[simp] theorem State.setCbuf_ERR (s : State) (v : Vector Byte 32) : (s.setCbuf v).ERR = s.ERR := rfl
@[simp] theorem State.setCbuf_inbox (s : State) (v : Vector Byte 32) : (s.setCbuf v).inbox = s.inbox := rfl
@[simp] theorem State.setCbuf_replies (s : State) (v : Vector Byte 32) : (s.setCbuf v).replies = s.replies := rfl

@[simp] theorem State.setText_P (s : State) (cs : List Byte) (m : Nat) : (s.setText cs m).P = s.P := by cases s; rfl
@[simp] theorem State.setText_S (s : State) (cs : List Byte) (m : Nat) : (s.setText cs m).S = s.S := by cases s; rfl
@[simp] theorem State.setText_KEY (s : State) (cs : List Byte) (m : Nat) : (s.setText cs m).KEY = s.KEY := by cases s; rfl
@[simp] theorem State.setText_KEYLEN (s : State) (cs : List Byte) (m : Nat) : (s.setText cs m).KEYLEN = s.KEYLEN := by cases s; rfl
@[simp] theorem State.setText_SALT (s : State) (cs : List Byte) (m : Nat) : (s.setText cs m).SALT = s.SALT := by cases s; rfl
@[simp] theorem State.setText_SALTLEN (s : State) (cs : List Byte) (m : Nat) : (s.setText cs m).SALTLEN = s.SALTLEN := by cases s; rfl
@[simp] theorem State.setText_COST (s : State) (cs : List Byte) (m : Nat) : (s.setText cs m).COST = s.COST := by cases s; rfl
@[simp] theorem State.setText_L (s : State) (cs : List Byte) (m : Nat) : (s.setText cs m).L = s.L := by cases s; rfl
@[simp] theorem State.setText_R (s : State) (cs : List Byte) (m : Nat) : (s.setText cs m).R = s.R := by cases s; rfl
@[simp] theorem State.setText_DIGEST (s : State) (cs : List Byte) (m : Nat) : (s.setText cs m).DIGEST = s.DIGEST := by cases s; rfl
@[simp] theorem State.setText_BBUF (s : State) (cs : List Byte) (m : Nat) : (s.setText cs m).BBUF = s.BBUF := by cases s; rfl
@[simp] theorem State.setText_BLEN (s : State) (cs : List Byte) (m : Nat) : (s.setText cs m).BLEN = s.BLEN := by cases s; rfl
@[simp] theorem State.setText_CBUF (s : State) (cs : List Byte) (m : Nat) : (s.setText cs m).CBUF = writeFront s.CBUF cs := by cases s; rfl
@[simp] theorem State.setText_CLEN (s : State) (cs : List Byte) (m : Nat) : (s.setText cs m).CLEN = BitVec.ofNat 6 m := by cases s; rfl
@[simp] theorem State.setText_ERR (s : State) (cs : List Byte) (m : Nat) : (s.setText cs m).ERR = s.ERR := by cases s; rfl
@[simp] theorem State.setText_inbox (s : State) (cs : List Byte) (m : Nat) : (s.setText cs m).inbox = s.inbox := by cases s; rfl
@[simp] theorem State.setText_replies (s : State) (cs : List Byte) (m : Nat) : (s.setText cs m).replies = s.replies := by cases s; rfl

@[simp] theorem State.setBinary_P (s : State) (bs : List Byte) (m : Nat) : (s.setBinary bs m).P = s.P := by cases s; rfl
@[simp] theorem State.setBinary_S (s : State) (bs : List Byte) (m : Nat) : (s.setBinary bs m).S = s.S := by cases s; rfl
@[simp] theorem State.setBinary_KEY (s : State) (bs : List Byte) (m : Nat) : (s.setBinary bs m).KEY = s.KEY := by cases s; rfl
@[simp] theorem State.setBinary_KEYLEN (s : State) (bs : List Byte) (m : Nat) : (s.setBinary bs m).KEYLEN = s.KEYLEN := by cases s; rfl
@[simp] theorem State.setBinary_SALT (s : State) (bs : List Byte) (m : Nat) : (s.setBinary bs m).SALT = s.SALT := by cases s; rfl
@[simp] theorem State.setBinary_SALTLEN (s : State) (bs : List Byte) (m : Nat) : (s.setBinary bs m).SALTLEN = s.SALTLEN := by cases s; rfl
@[simp] theorem State.setBinary_COST (s : State) (bs : List Byte) (m : Nat) : (s.setBinary bs m).COST = s.COST := by cases s; rfl
@[simp] theorem State.setBinary_L (s : State) (bs : List Byte) (m : Nat) : (s.setBinary bs m).L = s.L := by cases s; rfl
@[simp] theorem State.setBinary_R (s : State) (bs : List Byte) (m : Nat) : (s.setBinary bs m).R = s.R := by cases s; rfl
@[simp] theorem State.setBinary_DIGEST (s : State) (bs : List Byte) (m : Nat) : (s.setBinary bs m).DIGEST = s.DIGEST := by cases s; rfl
@[simp] theorem State.setBinary_BBUF (s : State) (bs : List Byte) (m : Nat) : (s.setBinary bs m).BBUF = writeFront s.BBUF bs := by cases s; rfl
@[simp] theorem State.setBinary_BLEN (s : State) (bs : List Byte) (m : Nat) : (s.setBinary bs m).BLEN = BitVec.ofNat 5 m := by cases s; rfl
@[simp] theorem State.setBinary_CBUF (s : State) (bs : List Byte) (m : Nat) : (s.setBinary bs m).CBUF = s.CBUF := by cases s; rfl
@[simp] theorem State.setBinary_CLEN (s : State) (bs : List Byte) (m : Nat) : (s.setBinary bs m).CLEN = s.CLEN := by cases s; rfl
@[simp] theorem State.setBinary_ERR (s : State) (bs : List Byte) (m : Nat) : (s.setBinary bs m).ERR = s.ERR := by cases s; rfl
@[simp] theorem State.setBinary_inbox (s : State) (bs : List Byte) (m : Nat) : (s.setBinary bs m).inbox = s.inbox := by cases s; rfl
@[simp] theorem State.setBinary_replies (s : State) (bs : List Byte) (m : Nat) : (s.setBinary bs m).replies = s.replies := by cases s; rfl

@[simp] theorem State.setErr_P (s : State) (v : BitVec 4) : (s.setErr v).P = s.P := rfl
@[simp] theorem State.setErr_S (s : State) (v : BitVec 4) : (s.setErr v).S = s.S := rfl
@[simp] theorem State.setErr_KEY (s : State) (v : BitVec 4) : (s.setErr v).KEY = s.KEY := rfl
@[simp] theorem State.setErr_KEYLEN (s : State) (v : BitVec 4) : (s.setErr v).KEYLEN = s.KEYLEN := rfl
@[simp] theorem State.setErr_SALT (s : State) (v : BitVec 4) : (s.setErr v).SALT = s.SALT := rfl
@[simp] theorem State.setErr_SALTLEN (s : State) (v : BitVec 4) : (s.setErr v).SALTLEN = s.SALTLEN := rfl
@[simp] theorem State.setErr_COST (s : State) (v : BitVec 4) : (s.setErr v).COST = s.COST := rfl
@[simp] theorem State.setErr_L (s : State) (v : BitVec 4) : (s.setErr v).L = s.L := rfl
@[simp] theorem State.setErr_R (s : State) (v : BitVec 4) : (s.setErr v).R = s.R := rfl
@[simp] theorem State.setErr_DIGEST (s : State) (v : BitVec 4) : (s.setErr v).DIGEST = s.DIGEST := rfl
@[simp] theorem State.setErr_BBUF (s : State) (v : BitVec 4) : (s.setErr v).BBUF = s.BBUF := rfl
@[simp] theorem State.setErr_BLEN (s : State) (v : BitVec 4) : (s.setErr v).BLEN = s.BLEN := rfl
@[simp] theorem State.setErr_CBUF (s : State) (v : BitVec 4) : (s.setErr v).CBUF = s.CBUF := rfl
@[simp] theorem State.setErr_CLEN (s : State) (v : BitVec 4) : (s.setErr v).CLEN = s.CLEN := rfl
@[simp] theorem State.setErr_ERR (s : State) (v : BitVec 4) : (s.setErr v).ERR = v := rfl
@[simp] theorem State.setErr_inbox (s : State) (v : BitVec 4) : (s.setErr v).inbox = s.inbox := rfl
@[simp] theorem State.setErr_replies (s : State) (v : BitVec 4) : (s.setErr v).replies = s.replies := rfl

@[simp] theorem State.setInbox_P (s : State) (v : List HostEvent) : (s.setInbox v).P = s.P := rfl
@[simp] theorem State.setInbox_S (s : State) (v : List HostEvent) : (s.setInbox v).S = s.S := rfl
@[simp] theorem State.setInbox_KEY (s : State) (v : List HostEvent) : (s.setInbox v).KEY = s.KEY := rfl
@[simp] theorem State.setInbox_KEYLEN (s : State) (v : List HostEvent) : (s.setInbox v).KEYLEN = s.KEYLEN := rfl
@[simp] theorem State.setInbox_SALT (s : State) (v : List HostEvent) : (s.setInbox v).SALT = s.SALT := rfl
@[simp] theorem State.setInbox_SALTLEN (s : State) (v : List HostEvent) : (s.setInbox v).SALTLEN = s.SALTLEN := rfl
@[simp] theorem State.setInbox_COST (s : State) (v : List HostEvent) : (s.setInbox v).COST = s.COST := rfl
@[simp] theorem State.setInbox_L (s : State) (v : List HostEvent) : (s.setInbox v).L = s.L := rfl
@[simp] theorem State.setInbox_R (s : State) (v : List HostEvent) : (s.setInbox v).R = s.R := rfl
@[simp] theorem State.setInbox_DIGEST (s : State) (v : List HostEvent) : (s.setInbox v).DIGEST = s.DIGEST := rfl
@[simp] theorem State.setInbox_BBUF (s : State) (v : List HostEvent) : (s.setInbox v).BBUF = s.BBUF := rfl
@[simp] theorem State.setInbox_BLEN (s : State) (v : List HostEvent) : (s.setInbox v).BLEN = s.BLEN := rfl
@[simp] theorem State.setInbox_CBUF (s : State) (v : List HostEvent) : (s.setInbox v).CBUF = s.CBUF := rfl
@[simp] theorem State.setInbox_CLEN (s : State) (v : List HostEvent) : (s.setInbox v).CLEN = s.CLEN := rfl
@[simp] theorem State.setInbox_ERR (s : State) (v : List HostEvent) : (s.setInbox v).ERR = s.ERR := rfl
@[simp] theorem State.setInbox_inbox (s : State) (v : List HostEvent) : (s.setInbox v).inbox = v := rfl
@[simp] theorem State.setInbox_replies (s : State) (v : List HostEvent) : (s.setInbox v).replies = s.replies := rfl

@[simp] theorem State.reply_P (s : State) (w : Word) : (s.reply w).P = s.P := rfl
@[simp] theorem State.reply_S (s : State) (w : Word) : (s.reply w).S = s.S := rfl
@[simp] theorem State.reply_KEY (s : State) (w : Word) : (s.reply w).KEY = s.KEY := rfl
@[simp] theorem State.reply_KEYLEN (s : State) (w : Word) : (s.reply w).KEYLEN = s.KEYLEN := rfl
@[simp] theorem State.reply_SALT (s : State) (w : Word) : (s.reply w).SALT = s.SALT := rfl
@[simp] theorem State.reply_SALTLEN (s : State) (w : Word) : (s.reply w).SALTLEN = s.SALTLEN := rfl
@[simp] theorem State.reply_COST (s : State) (w : Word) : (s.reply w).COST = s.COST := rfl
@[simp] theorem State.reply_L (s : State) (w : Word) : (s.reply w).L = s.L := rfl
@[simp] theorem State.reply_R (s : State) (w : Word) : (s.reply w).R = s.R := rfl
@[simp] theorem State.reply_DIGEST (s : State) (w : Word) : (s.reply w).DIGEST = s.DIGEST := rfl
@[simp] theorem State.reply_BBUF (s : State) (w : Word) : (s.reply w).BBUF = s.BBUF := rfl
@[simp] theorem State.reply_BLEN (s : State) (w : Word) : (s.reply w).BLEN = s.BLEN := rfl
@[simp] theorem State.reply_CBUF (s : State) (w : Word) : (s.reply w).CBUF = s.CBUF := rfl
@[simp] theorem State.reply_CLEN (s : State) (w : Word) : (s.reply w).CLEN = s.CLEN := rfl
@[simp] theorem State.reply_ERR (s : State) (w : Word) : (s.reply w).ERR = s.ERR := rfl
@[simp] theorem State.reply_inbox (s : State) (w : Word) : (s.reply w).inbox = s.inbox := rfl
@[simp] theorem State.reply_replies (s : State) (w : Word) : (s.reply w).replies = s.replies ++ [w] := rfl

@[simp] theorem State.scrub_P (s : State) : s.scrub.P = Vector.replicate 18 0 := by simp [State.scrub, zeroSubkeys]
@[simp] theorem State.scrub_S (s : State) : s.scrub.S = Vector.replicate 4 (Vector.replicate 256 0) := by simp [State.scrub, zeroSubkeys]
@[simp] theorem State.scrub_KEY (s : State) : s.scrub.KEY = Vector.replicate 72 0 := by simp [State.scrub, zeroSubkeys]
@[simp] theorem State.scrub_KEYLEN (s : State) : s.scrub.KEYLEN = 0 := by simp [State.scrub, zeroSubkeys]
@[simp] theorem State.scrub_SALT (s : State) : s.scrub.SALT = s.SALT := by simp [State.scrub, zeroSubkeys]
@[simp] theorem State.scrub_SALTLEN (s : State) : s.scrub.SALTLEN = s.SALTLEN := by simp [State.scrub, zeroSubkeys]
@[simp] theorem State.scrub_COST (s : State) : s.scrub.COST = s.COST := by simp [State.scrub, zeroSubkeys]
@[simp] theorem State.scrub_L (s : State) : s.scrub.L = s.L := by simp [State.scrub, zeroSubkeys]
@[simp] theorem State.scrub_R (s : State) : s.scrub.R = s.R := by simp [State.scrub, zeroSubkeys]
@[simp] theorem State.scrub_DIGEST (s : State) : s.scrub.DIGEST = s.DIGEST := by simp [State.scrub, zeroSubkeys]
@[simp] theorem State.scrub_BBUF (s : State) : s.scrub.BBUF = s.BBUF := by simp [State.scrub, zeroSubkeys]
@[simp] theorem State.scrub_BLEN (s : State) : s.scrub.BLEN = s.BLEN := by simp [State.scrub, zeroSubkeys]
@[simp] theorem State.scrub_CBUF (s : State) : s.scrub.CBUF = s.CBUF := by simp [State.scrub, zeroSubkeys]
@[simp] theorem State.scrub_CLEN (s : State) : s.scrub.CLEN = s.CLEN := by simp [State.scrub, zeroSubkeys]
@[simp] theorem State.scrub_ERR (s : State) : s.scrub.ERR = s.ERR := by simp [State.scrub, zeroSubkeys]
@[simp] theorem State.scrub_inbox (s : State) : s.scrub.inbox = s.inbox := by simp [State.scrub, zeroSubkeys]
@[simp] theorem State.scrub_replies (s : State) : s.scrub.replies = s.replies := by simp [State.scrub, zeroSubkeys]

@[simp] theorem State.succeed_P (s : State) : s.succeed.P = s.P := by simp [State.succeed, successCode]
@[simp] theorem State.succeed_S (s : State) : s.succeed.S = s.S := by simp [State.succeed, successCode]
@[simp] theorem State.succeed_KEY (s : State) : s.succeed.KEY = s.KEY := by simp [State.succeed, successCode]
@[simp] theorem State.succeed_KEYLEN (s : State) : s.succeed.KEYLEN = s.KEYLEN := by simp [State.succeed, successCode]
@[simp] theorem State.succeed_SALT (s : State) : s.succeed.SALT = s.SALT := by simp [State.succeed, successCode]
@[simp] theorem State.succeed_SALTLEN (s : State) : s.succeed.SALTLEN = s.SALTLEN := by simp [State.succeed, successCode]
@[simp] theorem State.succeed_COST (s : State) : s.succeed.COST = s.COST := by simp [State.succeed, successCode]
@[simp] theorem State.succeed_L (s : State) : s.succeed.L = s.L := by simp [State.succeed, successCode]
@[simp] theorem State.succeed_R (s : State) : s.succeed.R = s.R := by simp [State.succeed, successCode]
@[simp] theorem State.succeed_DIGEST (s : State) : s.succeed.DIGEST = s.DIGEST := by simp [State.succeed, successCode]
@[simp] theorem State.succeed_BBUF (s : State) : s.succeed.BBUF = s.BBUF := by simp [State.succeed, successCode]
@[simp] theorem State.succeed_BLEN (s : State) : s.succeed.BLEN = s.BLEN := by simp [State.succeed, successCode]
@[simp] theorem State.succeed_CBUF (s : State) : s.succeed.CBUF = s.CBUF := by simp [State.succeed, successCode]
@[simp] theorem State.succeed_CLEN (s : State) : s.succeed.CLEN = s.CLEN := by simp [State.succeed, successCode]
@[simp] theorem State.succeed_ERR (s : State) : s.succeed.ERR = 0 := by simp [State.succeed, successCode]
@[simp] theorem State.succeed_inbox (s : State) : s.succeed.inbox = s.inbox := by simp [State.succeed, successCode]
@[simp] theorem State.succeed_replies (s : State) : s.succeed.replies = s.replies := by simp [State.succeed, successCode]

@[simp] theorem State.hostReset_P (s : State) : s.hostReset.P = Vector.replicate 18 0 := by simp [State.hostReset]
@[simp] theorem State.hostReset_S (s : State) : s.hostReset.S = Vector.replicate 4 (Vector.replicate 256 0) := by simp [State.hostReset]
@[simp] theorem State.hostReset_KEY (s : State) : s.hostReset.KEY = Vector.replicate 72 0 := by simp [State.hostReset]
@[simp] theorem State.hostReset_KEYLEN (s : State) : s.hostReset.KEYLEN = 0 := by simp [State.hostReset]
@[simp] theorem State.hostReset_SALT (s : State) : s.hostReset.SALT = Vector.replicate 16 0 := by simp [State.hostReset]
@[simp] theorem State.hostReset_SALTLEN (s : State) : s.hostReset.SALTLEN = 0 := by simp [State.hostReset]
@[simp] theorem State.hostReset_COST (s : State) : s.hostReset.COST = 0 := by simp [State.hostReset]
@[simp] theorem State.hostReset_L (s : State) : s.hostReset.L = 0 := by simp [State.hostReset]
@[simp] theorem State.hostReset_R (s : State) : s.hostReset.R = 0 := by simp [State.hostReset]
@[simp] theorem State.hostReset_DIGEST (s : State) : s.hostReset.DIGEST = Vector.replicate 24 0 := by simp [State.hostReset]
@[simp] theorem State.hostReset_BBUF (s : State) : s.hostReset.BBUF = Vector.replicate 24 0 := by simp [State.hostReset]
@[simp] theorem State.hostReset_BLEN (s : State) : s.hostReset.BLEN = 0 := by simp [State.hostReset]
@[simp] theorem State.hostReset_CBUF (s : State) : s.hostReset.CBUF = Vector.replicate 32 0 := by simp [State.hostReset]
@[simp] theorem State.hostReset_CLEN (s : State) : s.hostReset.CLEN = 0 := by simp [State.hostReset]
@[simp] theorem State.hostReset_ERR (s : State) : s.hostReset.ERR = 0 := by simp [State.hostReset]
@[simp] theorem State.hostReset_inbox (s : State) : s.hostReset.inbox = s.inbox := by simp [State.hostReset]
@[simp] theorem State.hostReset_replies (s : State) : s.hostReset.replies = s.replies := by simp [State.hostReset]

@[simp] theorem State.subkeys_P (s : State) : s.subkeys.P = s.P := rfl
@[simp] theorem State.subkeys_S (s : State) : s.subkeys.S = s.S := rfl

end Sys2Proof.Machine
end

