-- ==== Sys2Proof/Laws/Ops.lean ====
section
/-!
SUPPORT. What the shared operations of Machine/Ops.lean and the checks of Machine/Operands.lean do, said
once, so that a proof cites them and does not unfold them; and the one form of all commands,
`exec_eq_complete`.
-/

namespace Sys2Proof.Machine

/-! ## The error return and the end of a command -/

@[simp] theorem State.raise_blowfish (s : State) (e : ErrorKind) : s.raise .blowfish e = s.scrub.setErr e.code := rfl
@[simp] theorem State.raise_base64 (s : State) (e : ErrorKind) : s.raise .base64 e = s.setErr e.code := rfl
@[simp] theorem State.raise_neither (s : State) (e : ErrorKind) : s.raise .neither e = s.setErr e.code := rfl

/-- Whatever the unit, an error return leaves the error's code in `ERR`. -/
theorem State.raise_ERR (s : State) (u : FunctionalUnit) (e : ErrorKind) : (s.raise u e).ERR = e.code := by
  cases u <;> simp

/-- No error has the code of success. -/
theorem ErrorKind.code_ne_zero (e : ErrorKind) : e.code ≠ 0 := by cases e <;> decide

/-- `Scrub()` leaves a clean state. -/
theorem State.scrub_clean (s : State) : s.scrub.Clean := by simp [State.Clean]

@[simp] theorem complete_some (u : FunctionalUnit) (e : ErrorKind) (f : State → State) (s : State) :
    complete u (some e) f s = .next (s.raise u e) := rfl

@[simp] theorem complete_none (u : FunctionalUnit) (f : State → State) (s : State) :
    complete u none f s = .next (f s).succeed := rfl

/-- The two ways a command ends: the error return on the state before it, or its effect with `ERR` 0. -/
theorem complete_cases {u : FunctionalUnit} {cause : Option ErrorKind} {f : State → State} {s t : State}
    (h : complete u cause f s = .next t) :
    (∃ e, cause = some e ∧ t = s.raise u e) ∨ (cause = none ∧ t = (f s).succeed) := by
  cases cause with
  | some e => exact .inl ⟨e, rfl, by simpa using h.symm⟩
  | none => exact .inr ⟨rfl, by simpa using h.symm⟩

/-! ## The checks -/

theorem State.klen_le (s : State) : s.klen ≤ 72 := Nat.min_le_right _ _

/-- Once the `InvalidKey` check has passed, the effective key length is at least 1. -/
theorem State.klen_pos (s : State) (h : s.KEYLEN.toNat ≠ 0) : 1 ≤ s.klen := by
  simp only [State.klen, Config.keyMax]; omega

theorem State.keyCause_eq (s : State) :
    s.keyCause = if s.KEYLEN.toNat = 0 then some .invalidKey else none := by
  simp [State.keyCause, State.badKey]

theorem State.saltCause_eq (s : State) :
    s.saltCause = if s.SALTLEN.toNat ≠ 16 then some .invalidSalt else none := by
  simp [State.saltCause, State.badSalt]

theorem State.saltKeyCause_eq (s : State) :
    s.saltKeyCause = if s.SALTLEN.toNat ≠ 16 then some .invalidSalt else s.keyCause := by
  simp [State.saltKeyCause, State.badSalt]

theorem State.setupCause_eq (s : State) :
    s.setupCause = if s.COST.toNat < 4 ∨ 31 < s.COST.toNat then some .invalidCost else s.saltKeyCause := by
  simp [State.setupCause, State.badCost]

/-- The checks of the composite commands pass exactly on the inputs of `SetupReady`. -/
theorem State.setupCause_eq_none (s : State) : s.setupCause = none ↔ s.SetupReady := by
  rw [State.setupCause_eq, State.saltKeyCause_eq, State.keyCause_eq]
  split_ifs <;> simp only [State.SetupReady, false_iff, true_iff] <;> omega

theorem encCause_eq (n : Nat) : encCause n = if 24 < n then some .bufferTooSmall else none := rfl

/-! ## All commands in one form -/

/-- The error a command reports in a state, if any (60_exceptions.md rules R111 and R114). -/
def causeOf (i : Instr) (s : State) : Option ErrorKind :=
  match i with
  | .init => none
  | .expandkey => s.saltKeyCause
  | .expandstateK => s.keyCause
  | .expandstateS => s.saltCause
  | .encblock => none
  | .ekssetup => s.setupCause
  | .ecbmagic => none
  | .bcrypt => s.setupCause
  | .scrub => none
  | .b64enc n => encCause n
  | .b64dec n => s.decCause n

/-- A command's effect where no check finds a cause, but for `ERR <- 0`. -/
def effectOf (i : Instr) (s : State) : State :=
  match i with
  | .init => s.setSubkeys piSubkeys
  | .expandkey => s.setSubkeys (expand s.subkeys s.KEY s.klen (some s.SALT))
  | .expandstateK => s.setSubkeys (expand s.subkeys s.KEY s.klen none)
  | .expandstateS => s.setSubkeys (expand s.subkeys s.SALT Config.saltBytes none)
  | .encblock => s.setBlock (encryptBlock s.subkeys (s.L, s.R))
  | .ekssetup => s.setSubkeys s.derivedSubkeys
  | .ecbmagic => s.setDigest (ecbMagic s.subkeys)
  | .bcrypt => (s.setDigest (ecbMagic s.derivedSubkeys)).scrub
  | .scrub => s.scrub
  | .b64enc n => s.setText (enc (s.binaryFront n)) (encLen n)
  | .b64dec n => s.setBinary ((dec (s.textFront n)).getD []) (decLen n)

/-- Every command is its checks, its effect and the end of a command of its unit. -/
theorem exec_eq_complete (i : Instr) (s : State) : exec i s = complete (unitOf i) (causeOf i s) (effectOf i) s := by
  cases i <;> rfl

/-- The two ways a command answers a next state; there is no third (the inversion of `exec`). -/
theorem exec_cases {i : Instr} {s t : State} (h : exec i s = .next t) :
    (∃ e, causeOf i s = some e ∧ t = s.raise (unitOf i) e) ∨ (causeOf i s = none ∧ t = (effectOf i s).succeed) :=
  complete_cases (exec_eq_complete i s ▸ h)

end Sys2Proof.Machine
end

