-- ==== Sys2Proof/Laws/HostPort.lean ====
section
/-!
SUPPORT. What a step of the host port can do (Machine/HostPort.lean), said once: `step_cases` is the
inversion of `step`, and every invariant of a step follows from it.
-/

namespace Sys2Proof.Machine

/-- Rule R35 of 20_memory.md: the accesses that have a meaning. -/
theorem accessProblem_eq_none (off width : Nat) :
    accessProblem off width = none ↔ off < 0x1000 ∧ off % 4 = 0 ∧ width = 32 := by
  simp only [accessProblem, Config.windowBytes, Config.hostWidth]
  split_ifs <;> simp only [false_iff, true_iff] <;> omega

theorem mem_hostRegs (q : HostReg) : q ∈ hostRegs := by
  cases q <;> simp [hostRegs]

/-- The register found at an offset lies there. -/
theorem offset_of_regAt {off : Nat} {q : HostReg} (h : regAt off = some q) : q.offset = off := by
  simpa using List.find?_some h

/-- Only the offset of `CMD` is that register's. -/
theorem regAt_eq_cmd (off : Nat) : regAt off = some .cmd ↔ off = 0 := by
  constructor
  · intro h
    exact (offset_of_regAt h).symm
  · rintro rfl; rfl

/-- A write elsewhere than at `CMD` is a store, or nothing at an unassigned offset. -/
theorem hostWrite_of_ne_cmd {off : Nat} (h : off ≠ 0) (v : Word) (s : State) :
    hostWrite off v s = .next (match regAt off with | some q => writeReg q v s | none => s) := by
  have hc : regAt off ≠ some .cmd := fun hr => h ((regAt_eq_cmd off).mp hr)
  unfold hostWrite
  cases hr : regAt off with
  | none => rfl
  | some q => cases q <;> first | rfl | exact absurd hr hc

/-- A write at `CMD` executes the word. -/
theorem hostWrite_cmd (v : Word) (s : State) : hostWrite 0 v s = execWord v s := rfl

/-- The two ways `Exec(c)` answers a next state. -/
theorem execWord_cases {c : Word} {s t : State} (h : execWord c s = .next t) :
    (∃ i, decode c = .ok i ∧ exec i s = .next t) ∨ ((∃ e, decode c = .error e) ∧ t = s.setErr 8) := by
  unfold execWord at h
  cases hd : decode c with
  | ok i => rw [hd] at h; exact .inl ⟨i, rfl, h⟩
  | error e =>
    rw [hd] at h
    refine .inr ⟨⟨e, rfl⟩, ?_⟩
    simpa [ErrorKind.code] using h.symm

/-- Everything a step with a next state can have done: nothing was issued; a reset; a read; a command; a
store; or an illegal command word. -/
theorem step_cases {s t : State} (h : step s = .next t) :
    (s.inbox = [] ∧ t = s) ∨
    (∃ rest, s.inbox = .reset :: rest ∧ t = (s.setInbox rest).hostReset) ∨
    (∃ rest off, s.inbox = .read off 32 :: rest ∧ t = (s.setInbox rest).reply (hostRead off (s.setInbox rest))) ∨
    (∃ rest c, s.inbox = .write 0 32 c :: rest ∧
      ((∃ i, decode c = .ok i ∧ exec i (s.setInbox rest) = .next t) ∨
        ((∃ e, decode c = .error e) ∧ t = (s.setInbox rest).setErr 8))) ∨
    (∃ rest off v, s.inbox = .write off 32 v :: rest ∧ off ≠ 0 ∧
      t = match regAt off with | some q => writeReg q v (s.setInbox rest) | none => s.setInbox rest) := by
  unfold step acceptNext at h
  split at h
  · rename_i hin
    left; exact ⟨hin, by simpa using h.symm⟩
  · rename_i e rest hin
    right
    cases e with
    | reset => left; exact ⟨rest, hin, by simpa [acceptEvent] using h.symm⟩
    | read off width =>
      right; left
      simp only [acceptEvent] at h
      split at h
      · cases h
      · rename_i hp
        obtain ⟨-, -, rfl⟩ := (accessProblem_eq_none off width).mp hp
        exact ⟨rest, off, hin, by simpa using h.symm⟩
    | write off width v =>
      right; right
      simp only [acceptEvent] at h
      split at h
      · cases h
      · rename_i hp
        obtain ⟨-, -, rfl⟩ := (accessProblem_eq_none off width).mp hp
        by_cases h0 : off = 0
        · subst h0
          rw [hostWrite_cmd] at h
          left; exact ⟨rest, v, hin, execWord_cases h⟩
        · rw [hostWrite_of_ne_cmd h0] at h
          right; exact ⟨rest, off, v, hin, h0, by simpa using h.symm⟩

end Sys2Proof.Machine
end

