-- ==== Sys2Proof/Laws/PerInstr.lean ====
section
/-!
SUPPORT. Facts about every command as syntax, one lemma per constructor: the reserved field of its word
is zero (30_encoding.md rule R45), and its low byte is its opcode (rule R50).
-/

namespace Sys2Proof.Laws

/-- Rule R45: `rsv` is 0 in the word of every command. -/
def ReservedZero.Statement (i : Instr) : Prop := rsvField (encode i) = 0

/-- Rule R50: `op` of a command's word is its opcode, whatever its operand. -/
def OpcodeField.Statement (i : Instr) : Prop := opField (encode i) = i.op

/-- The fields of a word put together from its fields. -/
theorem rsvField_join (arg op : BitVec 8) : rsvField (0#16 ++ arg ++ op : BitVec (16 + 8 + 8)) = 0 := by
  apply BitVec.eq_of_getLsbD_eq
  intro k hk
  interval_cases k <;> (simp only [rsvField, BitVec.getLsbD_append, BitVec.getLsbD_extractLsb']; simp)

theorem opField_join (arg op : BitVec 8) : opField (0#16 ++ arg ++ op : BitVec (16 + 8 + 8)) = op := by
  apply BitVec.eq_of_getLsbD_eq
  intro k hk
  interval_cases k <;> (simp only [opField, BitVec.getLsbD_append, BitVec.getLsbD_extractLsb']; simp)

theorem ReservedZero.init : ReservedZero.Statement .init := rsvField_join _ _
theorem ReservedZero.expandkey : ReservedZero.Statement .expandkey := rsvField_join _ _
theorem ReservedZero.expandstateK : ReservedZero.Statement .expandstateK := rsvField_join _ _
theorem ReservedZero.expandstateS : ReservedZero.Statement .expandstateS := rsvField_join _ _
theorem ReservedZero.encblock : ReservedZero.Statement .encblock := rsvField_join _ _
theorem ReservedZero.ekssetup : ReservedZero.Statement .ekssetup := rsvField_join _ _
theorem ReservedZero.ecbmagic : ReservedZero.Statement .ecbmagic := rsvField_join _ _
theorem ReservedZero.bcrypt : ReservedZero.Statement .bcrypt := rsvField_join _ _
theorem ReservedZero.scrub : ReservedZero.Statement .scrub := rsvField_join _ _
theorem ReservedZero.b64enc (n : Nat) : ReservedZero.Statement (.b64enc n) := rsvField_join _ _
theorem ReservedZero.b64dec (n : Nat) : ReservedZero.Statement (.b64dec n) := rsvField_join _ _

theorem OpcodeField.init : OpcodeField.Statement .init := opField_join _ _
theorem OpcodeField.expandkey : OpcodeField.Statement .expandkey := opField_join _ _
theorem OpcodeField.expandstateK : OpcodeField.Statement .expandstateK := opField_join _ _
theorem OpcodeField.expandstateS : OpcodeField.Statement .expandstateS := opField_join _ _
theorem OpcodeField.encblock : OpcodeField.Statement .encblock := opField_join _ _
theorem OpcodeField.ekssetup : OpcodeField.Statement .ekssetup := opField_join _ _
theorem OpcodeField.ecbmagic : OpcodeField.Statement .ecbmagic := opField_join _ _
theorem OpcodeField.bcrypt : OpcodeField.Statement .bcrypt := opField_join _ _
theorem OpcodeField.scrub : OpcodeField.Statement .scrub := opField_join _ _
theorem OpcodeField.b64enc (n : Nat) : OpcodeField.Statement (.b64enc n) := opField_join _ _
theorem OpcodeField.b64dec (n : Nat) : OpcodeField.Statement (.b64dec n) := opField_join _ _

end Sys2Proof.Laws
end

