-- ==== Sys2Proof/Tests/Slice0.lean ====
section
/-!
SUPPORT. Small tests of one step each, with expected values from 95_test_vectors.md, 30_encoding.md and
41_init_constants.md, and for every obligation with hypotheses a witness that meets them together.
-/

set_option Elab.async false

namespace Sys2Proof.Tests

open Sys2Proof Sys2Proof.Machine

/-! ## Helpers -/

/-- The next state of an outcome; the state after reset where there is none. -/
def after : Host.Outcome State Fault Refusal → State
  | .next t => t
  | .fault _ => State.reset
  | .refused _ => State.reset

/-- The state after reset with these events issued. -/
def issued (es : List HostEvent) : State := State.reset.setInbox es

/-- The state after reset with these inputs of the composite commands. -/
def inputs (cost saltlen keylen : Nat) : State :=
  { State.reset with COST := BitVec.ofNat 32 cost, SALTLEN := BitVec.ofNat 32 saltlen, KEYLEN := BitVec.ofNat 32 keylen }

/-- Inputs with which every command of the Blowfish unit succeeds: cost 4, the zero salt, the key "a". -/
def ready : State := { inputs 4 16 1 with KEY := State.reset.KEY.set 0 0x61 }

/-- The subkeys of `INIT`, with a block. -/
def underPi (l r : Word) : State := { State.reset with P := piP, S := piS, L := l, R := r }

/-- ASCII text in `CBUF`. -/
def withText (t : String) : State :=
  { State.reset with CBUF := writeFront State.reset.CBUF (t.toList.map fun c => BitVec.ofNat 8 c.toNat) }

/-- Bytes in `BBUF`. -/
def withBytes (bs : List Byte) : State := { State.reset with BBUF := writeFront State.reset.BBUF bs }

/-- A state whose readable registers all read differently. -/
def marked : State :=
  { State.reset with
    ERR := 7, COST := 0x80000004, KEYLEN := 0xFFFFFFFF, SALTLEN := 0x00000011, L := 0x01234567, R := 0x89ABCDEF,
    BLEN := 24, CLEN := 32, SALT := Vector.ofFn fun i => BitVec.ofNat 8 i.val,
    DIGEST := Vector.ofFn fun i => BitVec.ofNat 8 (0x20 + i.val), KEY := Vector.replicate 72 0xAA,
    BBUF := Vector.ofFn fun i => BitVec.ofNat 8 (0x40 + i.val),
    CBUF := Vector.ofFn fun i => BitVec.ofNat 8 (0x60 + i.val) }

/-- The words that a read of `marked` at an offset returns. -/
def readAt (off : Nat) : List Word := (after (step (marked.setInbox [.read off 32]))).replies

/-- `marked` after a write. -/
def wroteAt (off : Nat) (v : Word) : State := after (step (marked.setInbox [.write off 32 v]))

/-- Whether two states agree on every register but `P` and `S`. -/
def sameRegisters (s t : State) : Bool :=
  decide (s.KEY = t.KEY ∧ s.KEYLEN = t.KEYLEN ∧ s.SALT = t.SALT ∧ s.SALTLEN = t.SALTLEN ∧ s.COST = t.COST ∧ s.L = t.L ∧
    s.R = t.R ∧ s.DIGEST = t.DIGEST ∧ SameBase64 s t ∧ s.ERR = t.ERR)

/-- `ERR` after a command. -/
def errAfter (i : Instr) (s : State) : Nat := (after (exec i s)).ERR.toNat

/-! ## Well-formedness -/

theorem test_wf_refuses_b64enc_64 : (Instr.b64enc 64).wf = false := by decide
theorem test_wf_refuses_b64dec_64 : (Instr.b64dec 64).wf = false := by decide
theorem test_wf_accepts_63 : (Instr.b64enc 63).wf = true ∧ (Instr.b64dec 63).wf = true := by decide

/-! ## Decoding: words from the match column of 30_encoding.md rule R50, the count in bits [13:8] -/

theorem test_decode_init : decode 0x00000001 = .ok .init := rfl
theorem test_decode_expandkey : decode 0x00000002 = .ok .expandkey := rfl
theorem test_decode_expandstateK : decode 0x00000003 = .ok .expandstateK := rfl
theorem test_decode_expandstateS : decode 0x00000103 = .ok .expandstateS := rfl
theorem test_decode_encblock : decode 0x00000004 = .ok .encblock := rfl
theorem test_decode_ekssetup : decode 0x00000005 = .ok .ekssetup := rfl
theorem test_decode_ecbmagic : decode 0x00000006 = .ok .ecbmagic := rfl
theorem test_decode_bcrypt : decode 0x00000007 = .ok .bcrypt := rfl
theorem test_decode_scrub : decode 0x00000008 = .ok .scrub := rfl
theorem test_decode_b64enc : decode 0x00001710 = .ok (.b64enc 23) := rfl
theorem test_decode_b64dec : decode 0x00001611 = .ok (.b64dec 22) := rfl

/-- `rsv` not zero, unknown opcodes, and operand bytes that break formats Z, S, N (rule R52). -/
theorem test_decode_illegal :
    ([0x00010010, 0x00000000, 0x00000009, 0x00000012, 0x00000101, 0x00000203, 0x00004010, 0x00008011] : List Word).map
      (fun c => (decodeTableWord 32 c.toNat).isNone) = List.replicate 8 true := by decide +kernel

theorem test_encode_b64enc : encode (.b64enc 24) = 0x00001810 := rfl

/-! ## The tables of pi: the xor and the sum of each, 41_init_constants.md rules R71 to R75 -/

/-- The xor and the sum of a list of words. -/
def checks (ws : List Word) : Word × Word := (ws.foldl (· ^^^ ·) 0, ws.foldl (· + ·) 0)

theorem test_piP : checks piP.toList = (0xB73AD7EA, 0x8E4D14CC) := by decide +kernel
theorem test_piS0 : checks piS[0].toList = (0x4EB4DB7F, 0x4B745115) := by decide +kernel
theorem test_all_tables : checks piSubkeys.flat = (0x6FFA520A, 0x6BBF03AC) := by decide +kernel

/-! ## The Blowfish unit -/

theorem test_init : (after (exec .init ready)).P[1] = 0x85A308D3 := by decide +kernel

theorem test_f_all_ones : fFunction piS 0xFFFFFFFF = 0x452C2867 := by decide +kernel
theorem test_f_last_byte : fFunction piS 0x000000FF = 0x305999CD := by decide +kernel

theorem test_encblock_pi :
    let t := after (exec .encblock (underPi 0x01234567 0x89ABCDEF))
    t.L = 0x738E078D ∧ t.R = 0x4C8703A6 := by decide +kernel

theorem test_encblock_zero_subkeys :
    let t := after (exec .encblock { State.reset with L := 0x11111111, R := 0x22222222 })
    t.L = 0x22222222 ∧ t.R = 0x11111111 := by decide +kernel

/-- The key stream of "abcde": its second word, and position 2 after 18 words. -/
theorem test_stream_abcde :
    (streamWord (#v[0x61, 0x62, 0x63, 0x64, 0x65] : Vector Byte 5) 5 4).1 = 0x65616263 ∧
      ((List.range 18).foldl (fun j _ => (streamWord (#v[0x61, 0x62, 0x63, 0x64, 0x65] : Vector Byte 5) 5 j).2) 0) = 2 := by
  decide +kernel

/-- Phase 1 of the expansion with the key `61 62 63 00`: the words of the worked example. -/
theorem test_phase1 :
    let P := mixKey (#v[0x61, 0x62, 0x63, 0x00] : Vector Byte 4) 4 piP
    P[0] = 0x455D0988 ∧ P[3] = 0x62121044 ∧ P[17] = 0xE81B981B := by decide +kernel

/-- The first pair of `EXPANDSTATE.K` with the key `00` after `INIT` is the zero block encrypted. -/
theorem test_first_pair :
    let c := expandSlot none (expandStart piSubkeys (#v[0x00] : Vector Byte 1) 1) (.p 0)
    c.keys.P[0] = 0x706D9FCC ∧ c.keys.P[1] = 0x1792D23A := by decide +kernel

/-- The first two pairs of `EXPANDKEY` with the key `61 62 63 00` and the salt `00 01 .. 0F` (the example
of rule R85). -/
theorem test_two_pairs_salted :
    let salt : Vector Byte 16 := Vector.ofFn fun i => BitVec.ofNat 8 i.val
    let c := [Slot.p 0, .p 1].foldl (expandSlot (some salt))
      (expandStart piSubkeys (#v[0x61, 0x62, 0x63, 0x00] : Vector Byte 4) 4)
    c.keys.P[0] = 0xE7F27063 ∧ c.keys.P[1] = 0x83B392EE ∧ c.keys.P[2] = 0x69030B79 ∧ c.keys.P[3] = 0xEE9ECE8F := by
  decide +kernel

theorem test_slots_count : slots.length = 521 := by decide +kernel

/-! ## The errors of the Blowfish unit (section 9), the digest, the scrub -/

theorem test_bcrypt_cost : [0, 3, 32].map (fun c => errAfter .bcrypt (inputs c 16 1)) = [1, 1, 1] := by decide +kernel
theorem test_bcrypt_order :
    [errAfter .bcrypt (inputs 3 15 0), errAfter .bcrypt (inputs 4 15 0), errAfter .bcrypt (inputs 4 16 0)] = [1, 2, 3] := by
  decide +kernel
theorem test_ekssetup_cost :
    [0xFFFFFFFF, 0x80000004].map (fun c => errAfter .ekssetup (inputs c 16 1)) = [1, 1] := by decide +kernel
theorem test_ekssetup_key : errAfter .ekssetup (inputs 31 16 0) = 3 := by decide +kernel
theorem test_expandkey_order :
    [errAfter .expandkey (inputs 0 15 1), errAfter .expandkey (inputs 0 17 0), errAfter .expandkey (inputs 0 16 0)] =
      [2, 2, 3] := by decide +kernel
theorem test_expandstateK_key : errAfter .expandstateK (inputs 0 0 0) = 3 := by decide +kernel
theorem test_expandstateS_salt :
    errAfter .expandstateS (inputs 0 0 1) = 2 ∧ errAfter .expandstateS (inputs 0 17 1) = 2 := by decide +kernel

/-- An error of the Blowfish unit scrubs and keeps the digest and the salt length. -/
theorem test_error_scrubs :
    let t := after (exec .expandkey { marked with P := piP, S := piS })
    t.P[0] = 0 ∧ t.S[3][255] = 0 ∧ t.KEY[71] = 0 ∧ t.KEYLEN = 0 ∧ t.DIGEST = marked.DIGEST ∧ t.SALTLEN = 0x11 := by
  decide +kernel

/-- The digest is packed big-endian: the magic blocks, packed, are the magic text. -/
theorem test_digest_packing : blockBytes magicBlocks = magic ∧ magic.toList.take 2 = [0x4F, 0x72] := by decide +kernel

/-- One pass over the magic words with the constants of `INIT`. -/
theorem test_ecb_pass :
    ecbPass piSubkeys magicBlocks =
      #v[(0xA22420CF, 0x2AD3EF8A), (0x9D5D5F8A, 0xF746A978), (0x4C94D9CA, 0xFBE28BD5)] := by decide +kernel

theorem test_scrub :
    let t := after (exec .scrub { marked with P := piP, S := piS })
    t.P[17] = 0 ∧ t.S[0][0] = 0 ∧ t.KEY[0] = 0 ∧ t.KEYLEN = 0 ∧ t.COST = 0x80000004 ∧ t.ERR = 0 := by decide +kernel

/-! ## The Base64 unit (section 3) -/

theorem test_b64enc_four :
    (after (exec (.b64enc 4) (withBytes [1, 2, 3, 4]))).CBUF = (withText ".OGB/.").CBUF ∧
      (after (exec (.b64enc 4) (withBytes [1, 2, 3, 4]))).CLEN = 6 := by decide +kernel
theorem test_b64enc_limits :
    [errAfter (.b64enc 24) marked, errAfter (.b64enc 25) marked, errAfter (.b64enc 63) marked] = [0, 7, 7] := by
  decide +kernel
theorem test_b64dec_surplus :
    (after (exec (.b64dec 2) (withText "Ox"))).BBUF[0] = 0x43 ∧
      (after (exec (.b64dec 3) (withText "A9z"))).BBUF.toList.take 3 = [0x0B, 0xFD, 0] := by decide +kernel
theorem test_b64dec_errors :
    [errAfter (.b64dec 1) (withText "."), errAfter (.b64dec 4) (withText "ab+d"), errAfter (.b64dec 33) (withText "+"),
      errAfter (.b64dec 2) (withText "99")] = [4, 4, 7, 0] := by decide +kernel

/-! ## The host port: every row of the map at its first and last word (20_memory.md rules R30 to R36) -/

theorem test_reads_assigned :
    ([0x000, 0x004, 0x008, 0x00C, 0x010, 0x014, 0x018, 0x01C, 0x020, 0x040, 0x04C, 0x050, 0x064, 0x080, 0x0C4,
        0x100, 0x114, 0x120, 0x13C].map readAt) =
      [[0], [7], [0x80000004], [0xFFFFFFFF], [0x11], [0x01234567], [0x89ABCDEF], [24], [32], [0x00010203],
        [0x0C0D0E0F], [0x20212223], [0x34353637], [0], [0], [0x40414243], [0x54555657], [0x60616263],
        [0x7C7D7E7F]] := by decide +kernel

theorem test_reads_unassigned :
    ([0x024, 0x03C, 0x068, 0x07C, 0x0C8, 0x0FC, 0x118, 0x11C, 0x140, 0xFFC].map readAt) = List.replicate 10 [0] := by
  decide +kernel

theorem test_writes_buffers :
    (wroteAt 0x04C 0xA1B2C3D4).SALT.toList.drop 11 = [0x0B, 0xA1, 0xB2, 0xC3, 0xD4] ∧
      (wroteAt 0x0C4 0xA1B2C3D4).KEY.toList.drop 67 = [0xAA, 0xA1, 0xB2, 0xC3, 0xD4] ∧
      (wroteAt 0x100 0xA1B2C3D4).BBUF.toList.take 5 = [0xA1, 0xB2, 0xC3, 0xD4, 0x44] ∧
      (wroteAt 0x13C 0xA1B2C3D4).CBUF.toList.drop 27 = [0x7B, 0xA1, 0xB2, 0xC3, 0xD4] := by decide +kernel

theorem test_writes_ignored :
    ([0x004, 0x01C, 0x020, 0x024, 0x03C, 0x050, 0x064, 0x068, 0x07C, 0x0C8, 0x0FC, 0x118, 0x11C, 0x140, 0xFFC].map
      fun off => sameRegisters marked (wroteAt off 0xFFFFFFFF)) = List.replicate 15 true := by decide +kernel

theorem test_illegal_word_sets_err : (wroteAt 0x000 0x00010010).ERR = 8 ∧ (wroteAt 0x000 0x00010010).KEY = marked.KEY := by
  decide +kernel

/-- A misaligned, a narrow and an outside access have no step. -/
theorem test_refusals :
    step (issued [.read 0x002 32]) = .refused (.misaligned 0x002) ∧
      step (issued [.write 0x000 8 1]) = .refused (.notWordWide 8) ∧
      step (issued [.read 0x1000 32]) = .refused (.outsideWindow 0x1000) := ⟨rfl, rfl, rfl⟩

theorem test_reset_event : (after (step (marked.setInbox [.reset]))) = State.reset := rfl

theorem test_fetch_word : decodeTableWord 32 0x00001710 = some (.b64enc 23) ∧
    step (State.reset.withFetchWord 32 0x00000008) = exec .scrub State.reset := ⟨rfl, rfl⟩

/-! ## Witnesses: encoding -/

theorem witness_DecodeOfEncode : (Instr.b64enc 63).WellFormed ∧ (Instr.b64dec 0).WellFormed ∧ Instr.bcrypt.WellFormed := by
  decide

theorem witness_EncodeOfDecode : decode 0x00003F11 = .ok (.b64dec 63) := rfl

theorem witness_ExecOfCommandWord :
    (issued [.write 0x000 32 0x00003F10]).inbox = .write 0x000 32 0x00003F10 :: [] ∧
      (∃ row ∈ opcodeRows, row.Selects 0x00003F10) ∧
      (issued [.write 0x000 32 0x00004010]).inbox = .write 0x000 32 0x00004010 :: [] ∧
      ∀ row ∈ opcodeRows, ¬ row.Selects 0x00004010 := by
  refine ⟨rfl, ⟨⟨"B64ENC", 0x00000010, 0xFFFFC0FF, fun n => .b64enc n⟩, ?_, by decide⟩, rfl, ?_⟩ <;>
    simp [opcodeRows, OpcodeRow.Selects]

theorem witness_IllegalWordsSetErrOnly :
    (issued [.write 0x000 32 0x00000009]).inbox = .write 0x000 32 0x00000009 :: [] ∧
      decode 0x00000009 = .error .unknownOpcode ∧ decode 0x00000012 = .error .unknownOpcode ∧
      decode 0x0000010F = .error .unknownOpcode ∧ decode 0x00000108 = .error .operandField ∧
      decode 0x00000203 = .error .operandField ∧ decode 0x00004011 = .error .operandField ∧
      decode 0x80000001 = .error .reservedField := ⟨rfl, rfl, rfl, rfl, rfl, rfl, rfl, rfl⟩

theorem witness_StepRunsDecodedCommand :
    decode 0x00000007 = .ok .bcrypt ∧
      (issued [.write 0x000 32 0x00000007]).inbox = .write 0x000 32 0x00000007 :: [] := ⟨rfl, rfl⟩

/-! ## Witnesses: the host port -/

/-- The first and last offset of every clause of the read statement. -/
theorem witness_HostReadReturnsTableWord :
    ∀ off ∈ [0x000, 0x004, 0x008, 0x00C, 0x010, 0x014, 0x018, 0x01C, 0x020, 0x024, 0x03C, 0x040, 0x04C, 0x050, 0x064,
        0x068, 0x0FC, 0x100, 0x114, 0x118, 0x11C, 0x120, 0x13C, 0x140, 0xFFC],
      (issued [.read off 32]).inbox = .read off 32 :: [] ∧ off % 4 = 0 ∧ off < 0x1000 := by decide

/-- The first and last offset of every clause of the write statement. -/
theorem witness_HostWriteStoresByTable :
    ∀ off ∈ [0x000, 0x004, 0x008, 0x00C, 0x010, 0x014, 0x018, 0x01C, 0x03C, 0x040, 0x04C, 0x050, 0x07C, 0x080, 0x0C4,
        0x0C8, 0x0FC, 0x100, 0x114, 0x118, 0x11C, 0x120, 0x13C, 0x140, 0xFFC],
      (issued [.write off 32 1]).inbox = .write off 32 1 :: [] ∧ off % 4 = 0 ∧ off < 0x1000 := by decide

/-- The accesses without a step, one for each cause at its boundary, and an unassigned offset. -/
theorem witness_OnlyAlignedWordAccessesStep :
    (issued [.read 0x001 32]).inbox = .read 0x001 32 :: [] ∧ 0x001 % 4 ≠ 0 ∧
      (issued [.write 0x000 16 1]).inbox = .write 0x000 16 1 :: [] ∧ 16 ≠ 32 ∧
      (issued [.read 0x1000 32]).inbox = .read 0x1000 32 :: [] ∧
      (issued [.write 0x024 32 1]).inbox = .write 0x024 32 1 :: [] ∧ ∀ r : HostReg, r.offset ≠ 0x024 := by
  refine ⟨rfl, by decide, rfl, by decide, rfl, rfl, ?_⟩
  intro r
  cases r <;> simp [HostReg.offset] <;> omega

theorem witness_WrittenRegisterReadsBack :
    HostReg.right ∈ [HostReg.cost, .keylen, .saltlen, .left, .right] ∧ (∃ i, HostReg.cbufw 7 = .cbufw i) ∧
      HostReg.clen ∈ [HostReg.cmd, .err, .blen, .clen] ∧ (∃ i, HostReg.keyw 17 = .keyw i) ∧
      HostReg.keyw 0 ≠ HostReg.keyw 17 := ⟨by decide, ⟨7, rfl⟩, by decide, ⟨17, rfl⟩, by decide⟩

theorem witness_AccessSideEffects :
    (issued [.read 0x000 32, .read 0x000 32]).inbox = .read 0x000 32 :: .read 0x000 32 :: [] ∧
      (0xFFC % 4 = 0 ∧ 0xFFC < 0x1000 ∧ 0xFFC ≠ 0x000) := ⟨rfl, by decide⟩

/-- Two machines with different keys and events that are no commands. -/
theorem witness_HostWithoutCommandsLearnsNoKey :
    SameButStore (ready.setInbox [.read 0x080 32, .write 0x080 32 1, .reset])
        ((inputs 4 16 1).setInbox [.read 0x080 32, .write 0x080 32 1, .reset]) ∧
      (ready.setInbox [.read 0x080 32, .write 0x080 32 1, .reset]) ≠
        ((inputs 4 16 1).setInbox [.read 0x080 32, .write 0x080 32 1, .reset]) ∧
      ∀ e ∈ (ready.setInbox [.read 0x080 32, .write 0x080 32 1, .reset]).inbox, ¬ e.IsCommand := by
  refine ⟨rfl, fun h => absurd (congrArg State.KEY h) (by decide +kernel), ?_⟩
  simp [State.setInbox, HostEvent.IsCommand]

theorem witness_IdleStepKeepsState : marked.inbox = [] := rfl

/-! ## Witnesses: reset, invariant -/

theorem witness_ResetZeroesEverything : (marked.setInbox [.reset]).inbox = .reset :: [] := rfl

/-- The bounds of the invariant met with equality, and a step from there. -/
theorem witness_StepKeepsStatusBounds :
    (issued [.write 0x000 32 0x00010010]).Inv ∧
      step (issued [.write 0x000 32 0x00010010]) = .next { State.reset with ERR := 8 } ∧
      marked.Inv ∧ step marked = .next marked := ⟨by decide, rfl, by decide, rfl⟩

/-! ## Witnesses: the cipher -/

theorem witness_KeyStreamIsCyclicBytes :
    (1 ≤ 1 ∧ 1 ≤ 72) ∧ (1 ≤ 72 ∧ 72 ≤ 72) ∧
      ∀ j : Fin 72, j.val < 1 → (ready.KEY.set 1 0x7A)[j] = ready.KEY[j] := by decide +kernel

theorem witness_ExpandChainsOverFlatSubkeys : (1 ≤ 1 ∧ 1 ≤ 1) ∧ (1 ≤ 72 ∧ 72 ≤ 72) := by decide

theorem witness_ZeroSaltIsNoSalt : ready.SALT = Vector.replicate 16 0 ∧ ready.SALTLEN = 16 := ⟨rfl, rfl⟩

/-- "ab" and "abab" (law R89 b). -/
theorem witness_ExpandReadsKeyCyclically :
    (1 ≤ 2 ∧ 2 ≤ 2 ∧ 1 ≤ 4 ∧ 4 ≤ 4) ∧
      ∀ j < 72, bufByte (#v[0x61, 0x62] : Vector Byte 2) (j % 2) =
        bufByte (#v[0x61, 0x62, 0x61, 0x62] : Vector Byte 4) (j % 4) := by decide +kernel

theorem witness_KeyLengthIsCutAt72 :
    72 ≤ (inputs 4 16 72).KEYLEN.toNat ∧ 72 ≤ (0xFFFFFFFF : Word).toNat ∧
      ∀ i ∈ [Instr.expandkey, .expandstateK, .ekssetup, .bcrypt],
        i ∈ [Instr.expandkey, .expandstateK, .ekssetup, .bcrypt] := by decide +kernel

/-- Two states that agree on the effective inputs only: key bytes beyond the length, subkeys and block
differ. -/
theorem witness_BcryptDigestIsPure :
    ready.SetupReady ∧ (State.mk piP piS (ready.KEY.set 1 0x7A) 1 ready.SALT 16 4 1 2 marked.DIGEST marked.BBUF 3
        marked.CBUF 4 8 [] []).SetupReady ∧
      SameHashInputs ready (State.mk piP piS (ready.KEY.set 1 0x7A) 1 ready.SALT 16 4 1 2 marked.DIGEST marked.BBUF 3
        marked.CBUF 4 8 [] []) := by decide +kernel

/-! ## Witnesses: the commands, at the boundaries of each clause -/

theorem witness_EncblockEncryptsDataRegisters :
    encryptBlock ⟨(underPi 0 0).P, (underPi 0 0).S⟩ ((underPi 0 0).L, (underPi 0 0).R) = (0x706D9FCC, 0x1792D23A) ∧
      (State.reset.P = Vector.replicate 18 0 ∧ State.reset.S = Vector.replicate 4 (Vector.replicate 256 0)) ∧
      ((underPi 0 0).P = piP ∧ (underPi 0 0).S = piS ∧ (underPi 0 0).L = 0 ∧ (underPi 0 0).R = 0) :=
  ⟨by decide +kernel, ⟨rfl, rfl⟩, rfl, rfl, rfl, rfl⟩

theorem witness_ExpandkeyResult :
    ((inputs 0 16 1).SALTLEN = 16 ∧ (inputs 0 16 1).KEYLEN ≠ 0) ∧ (inputs 0 15 0).SALTLEN ≠ 16 ∧
      (inputs 0 17 1).SALTLEN ≠ 16 ∧ ((inputs 0 16 0).SALTLEN = 16 ∧ (inputs 0 16 0).KEYLEN = 0) := by decide +kernel

theorem witness_ExpandstateKeyResult : (inputs 0 0 1).KEYLEN ≠ 0 ∧ (inputs 0 0 0).KEYLEN = 0 := by decide +kernel

theorem witness_ExpandstateSaltResult :
    (inputs 0 16 0).SALTLEN = 16 ∧ (inputs 0 15 1).SALTLEN ≠ 16 ∧ (inputs 0 17 1).SALTLEN ≠ 16 := by decide +kernel

/-- The witness of `EKSSETUP` and of `BCRYPT`, whose clauses have the same hypotheses. -/
theorem witness_EkssetupResult_BcryptResult :
    (∀ c ∈ [4, 31], 4 ≤ (inputs c 16 1).COST.toNat ∧ (inputs c 16 1).COST.toNat ≤ 31 ∧ (inputs c 16 1).SALTLEN = 16 ∧
        (inputs c 16 1).KEYLEN ≠ 0) ∧
      ((inputs 3 16 1).COST.toNat < 4) ∧ (31 < (inputs 32 16 1).COST.toNat) ∧
      (∀ c ∈ [4, 31], 4 ≤ (inputs c 15 0).COST.toNat ∧ (inputs c 15 0).COST.toNat ≤ 31 ∧ (inputs c 15 0).SALTLEN ≠ 16) ∧
      (∀ c ∈ [4, 31], 4 ≤ (inputs c 16 0).COST.toNat ∧ (inputs c 16 0).COST.toNat ≤ 31 ∧ (inputs c 16 0).SALTLEN = 16 ∧
        (inputs c 16 0).KEYLEN = 0) := by decide +kernel

theorem witness_EkssetupEqualsPrimitives : (inputs 4 16 1).SetupReady ∧ (inputs 31 16 0xFFFFFFFF).SetupReady := by
  decide +kernel

theorem witness_BcryptEqualsThreeCommands : ready.SetupReady := by decide +kernel

/-! ## Witnesses: errors, units -/

/-- A failing command of each unit, and an illegal word. -/
theorem witness_FailingCommandIsAllOrNothing :
    (unitOf .bcrypt = .blowfish ∧ exec .bcrypt State.reset = .next { State.reset with ERR := 1 }) ∧
      (unitOf (.b64enc 25) = .base64 ∧ exec (.b64enc 25) State.reset = .next { State.reset with ERR := 7 }) ∧
      decode 0 = .error .unknownOpcode := ⟨⟨rfl, rfl⟩, ⟨rfl, rfl⟩, rfl⟩

theorem witness_ErrorsOfEachCommand :
    exec .scrub marked = .next { marked.scrub with ERR := 0 } ∧
      exec (.b64dec 33) marked = .next { marked with ERR := 7 } ∧ decode 0x00000203 = .error .operandField :=
  ⟨rfl, rfl, rfl⟩

/-- For each unit a command, its next state, and a second state that differs in the other unit. -/
theorem witness_UnitsAreIndependent :
    (unitOf (.b64enc 25) = .base64 ∧ exec (.b64enc 25) State.reset = .next { State.reset with ERR := 7 } ∧
        SameBase64 State.reset (underPi 1 2) ∧ ¬ SameBlowfish State.reset (underPi 1 2)) ∧
      (unitOf .bcrypt = .blowfish ∧ exec .bcrypt State.reset = .next { State.reset with ERR := 1 } ∧
        SameBlowfish State.reset (withText "Ox") ∧ ¬ SameBase64 State.reset (withText "Ox")) := by
  refine ⟨⟨rfl, rfl, ⟨rfl, rfl, rfl, rfl⟩, fun h => absurd h.2.2.2.2.2.2.2.1 (by decide +kernel)⟩, rfl, rfl,
    ⟨rfl, rfl, rfl, rfl, rfl, rfl, rfl, rfl, rfl, rfl⟩, fun h => absurd h.2.2.1 (by decide +kernel)⟩

/-- A successful `BCRYPT` has a next state; so have a scrub, a failure and a reset. -/
theorem witness_CleanAfterHashScrubErrorReset :
    (∃ t, exec .bcrypt ready = .next t) ∧ exec .scrub marked = .next { marked.scrub with ERR := 0 } ∧
      exec .expandstateK (inputs 4 16 0) = .next { (inputs 4 16 0).scrub with ERR := 3 } ∧
      (marked.setInbox [.reset]).inbox = .reset :: [] := ⟨⟨_, rfl⟩, rfl, rfl, rfl⟩

/-- One event of each kind. -/
theorem witness_EveryEventHasNextState :
    (issued [.reset]).inbox = .reset :: [] ∧
      ((issued [.read 0xFFC 32]).inbox = .read 0xFFC 32 :: [] ∧ 0xFFC % 4 = 0 ∧ 0xFFC < 0x1000 ∧ 32 = 32) ∧
      ((issued [.write 0x000 32 7]).inbox = .write 0x000 32 7 :: [] ∧ 0x000 % 4 = 0 ∧ 0x000 < 0x1000) :=
  ⟨rfl, ⟨rfl, by decide⟩, ⟨rfl, by decide⟩⟩

/-! ## Witnesses: the Base64 unit -/

theorem witness_CharValInvertsAlphabet : charVal 0x7A = some 53 ∧ 0x80 ≤ (0x80 : Byte).toNat := by decide

/-- A string of values at each legal length modulo 4, and strings that do not decode. -/
theorem witness_DecodeIsBitString :
    (∀ vs ∈ ([[], [63, 48], [63, 63, 60], [16, 53, 1, 2]] : List (List (BitVec 6))), vs.length % 4 ≠ 1) ∧
      dec [0x2E] = none ∧ dec [0x61, 0x2B] = none := by decide +kernel

/-- Surplus bits zero and not zero: "Ou" and "Ox", both the byte 43. -/
theorem witness_EncodeUndoesDecodeUpToSurplus :
    dec (([16, 48] : List (BitVec 6)).map alpha) = some [0x43] ∧
      dec (([16, 51] : List (BitVec 6)).map alpha) = some [0x43] ∧ dec (([1, 2, 3] : List (BitVec 6)).map alpha) ≠ none := by
  decide +kernel

/-- The last count that fits, the first that does not, and the example's bytes. -/
theorem witness_B64encResult :
    (24 ≤ 24 ∧ 24 < 25 ∧ 63 < 64) ∧ (withBytes [1, 2, 3, 4]).BBUF.toList.take 4 = [0x01, 0x02, 0x03, 0x04] := by
  decide +kernel

/-- Thirty-two characters that decode, a length of 1 modulo 4, a character outside the alphabet, counts
above the buffer, and the example's two texts. -/
theorem witness_B64decResult :
    (32 ≤ 32 ∧ 32 % 4 ≠ 1 ∧
        ∀ c ∈ (withText "99999999999999999999999999999999").CBUF.toList.take 32, charVal c ≠ none) ∧
      29 % 4 = 1 ∧ (∃ c ∈ (withText "ab+d").CBUF.toList.take 4, charVal c = none) ∧ (32 < 33 ∧ 63 < 64) ∧
      (withText "Oz").CBUF.toList.take 2 = [0x4F, 0x7A] ∧ (withText "Ox").CBUF.toList.take 2 = [0x4F, 0x78] := by
  decide +kernel

theorem witness_EncodeThenDecodeOnMachine : (0 ≤ 24) ∧ (24 ≤ 24) := by decide

end Sys2Proof.Tests
end

section
/-!
PROOFS. The host port (20_memory.md). The register map is injective, so an access at a register's offset
is that register's read or store, and one at no register's offset is a read of 0 or no write; the step
adds to this only the removal of the event and, for a read, the reply.
-/

namespace Sys2Proof.Machine

/-! ## The register map -/

/-- The map finds a register at its own offset (20_memory.md rule R30). -/
theorem regAt_offset (r : HostReg) : regAt r.offset = some r := by
  have found_at_offset : ∀ q ∈ hostRegs, regAt q.offset = some q := by decide
  exact found_at_offset r (mem_hostRegs r)

theorem regAt_eq_some_iff (off : Nat) (r : HostReg) : regAt off = some r ↔ off = r.offset := by
  constructor
  · intro h
    exact (offset_of_regAt h).symm
  · rintro rfl
    exact regAt_offset r

/-- An offset is unassigned exactly when no register lies there. -/
theorem regAt_eq_none_iff (off : Nat) : regAt off = none ↔ ∀ r : HostReg, r.offset ≠ off := by
  simp [regAt, mem_hostRegs]

/-! ## `HostRead` and `HostWrite` -/

theorem hostRead_of_eq_offset {off : Nat} (s : State) (r : HostReg) (h : off = r.offset) :
    hostRead off s = readReg r s := by
  simp only [hostRead, (regAt_eq_some_iff off r).mpr h]

/-- A read returns 0 where every register of that offset, if there is one, reads as 0. -/
theorem hostRead_eq_zero {off : Nat} {s : State} (h : ∀ r : HostReg, off = r.offset → readReg r s = 0) :
    hostRead off s = 0 := by
  cases hr : regAt off with
  | none => simp only [hostRead, hr]
  | some r =>
    have hoff : off = r.offset := (regAt_eq_some_iff off r).mp hr
    rw [hostRead_of_eq_offset s r hoff, h r hoff]

theorem hostWrite_of_eq_offset {off : Nat} (v : Word) (s : State) {r : HostReg} (hcmd : r ≠ .cmd)
    (h : off = r.offset) : hostWrite off v s = .next (writeReg r v s) := by
  have hr : regAt off = some r := (regAt_eq_some_iff off r).mpr h
  have hne : off ≠ 0 := by
    rintro rfl
    exact hcmd (Option.some.inj (hr.symm.trans ((regAt_eq_cmd 0).mpr rfl)))
  rw [hostWrite_of_ne_cmd hne, hr]

/-- A write elsewhere than at `CMD` does nothing where every register of that offset, if there is one,
ignores it. -/
theorem hostWrite_eq_self {off : Nat} {v : Word} {s : State} (hne : off ≠ 0)
    (h : ∀ r : HostReg, off = r.offset → writeReg r v s = s) : hostWrite off v s = .next s := by
  cases hr : regAt off with
  | none => rw [hostWrite_of_ne_cmd hne, hr]
  | some r =>
    have hoff : off = r.offset := (regAt_eq_some_iff off r).mp hr
    have hcmd : r ≠ .cmd := by
      rintro rfl
      exact hne hoff
    rw [hostWrite_of_eq_offset v s hcmd hoff, h r hoff]

/-- `setBufWord_getElem` for all bytes of the buffer at once. -/
theorem setBufWord_bytes {n : Nat} (X : Vector Byte n) (i : Nat) (v : Word) (h : 4 * i + 3 < n) (j : Fin n) :
    (setBufWord X i v h)[j] = if j.val / 4 = i then byteOf v (j.val % 4) else X[j] :=
  setBufWord_getElem X i v h j.val j.isLt

/-- The registers outside the readable ranges of 20_memory.md rule R31 are `CMD` and the key words, and
both read as 0 (rule R36). -/
theorem readReg_eq_zero_of_not_readable (s : State) (r : HostReg)
    (h : r.offset = 0x000 ∨ (0x020 < r.offset ∧ r.offset < 0x040) ∨ (0x064 < r.offset ∧ r.offset < 0x100) ∨
      (0x114 < r.offset ∧ r.offset < 0x120) ∨ 0x13C < r.offset) : readReg r s = 0 := by
  cases r with
  | cmd | keyw _ => rfl
  | err | cost | keylen | saltlen | left | right | blen | clen | saltw _ | digw _ | bbufw _ | cbufw _ =>
    simp only [HostReg.offset] at h
    omega

/-- The registers outside the writable ranges of 20_memory.md rule R32 ignore a write (rule R36). -/
theorem writeReg_eq_self_of_not_writable (v : Word) (s : State) (r : HostReg)
    (h : r.offset = 0x004 ∨ (0x018 < r.offset ∧ r.offset < 0x040) ∨ (0x04C < r.offset ∧ r.offset < 0x080) ∨
      (0x0C4 < r.offset ∧ r.offset < 0x100) ∨ (0x114 < r.offset ∧ r.offset < 0x120) ∨ 0x13C < r.offset) :
    writeReg r v s = s := by
  cases r with
  | cmd | err | blen | clen | digw _ => rfl
  | cost | keylen | saltlen | left | right | saltw _ | keyw _ | bbufw _ | cbufw _ =>
    simp only [HostReg.offset] at h
    omega

/-! ## The step at an access -/

/-- The step at a read with a meaning: the word is appended to the words returned. -/
theorem step_of_read {s : State} {rest : List HostEvent} {off : Nat} (hin : s.inbox = .read off 32 :: rest)
    (halign : off % 4 = 0) (hwin : off < 0x1000) :
    step s = .next ((s.setInbox rest).reply (hostRead off (s.setInbox rest))) := by
  have hok : accessProblem off 32 = none := (accessProblem_eq_none off 32).mpr ⟨hwin, halign, rfl⟩
  simp only [step, acceptNext, hin, acceptEvent, hok]

/-- The step at a write with a meaning is `HostWrite`. -/
theorem step_of_write {s : State} {rest : List HostEvent} {off : Nat} {v : Word}
    (hin : s.inbox = .write off 32 v :: rest) (halign : off % 4 = 0) (hwin : off < 0x1000) :
    step s = hostWrite off v (s.setInbox rest) := by
  have hok : accessProblem off 32 = none := (accessProblem_eq_none off 32).mpr ⟨hwin, halign, rfl⟩
  simp only [step, acceptNext, hin, acceptEvent, hok]

theorem step_of_read_refused {s : State} {rest : List HostEvent} {off width : Nat} {p : Refusal}
    (hin : s.inbox = .read off width :: rest) (hp : accessProblem off width = some p) : step s = .refused p := by
  simp only [step, acceptNext, hin, acceptEvent, hp]

theorem step_of_write_refused {s : State} {rest : List HostEvent} {off width : Nat} {v : Word} {p : Refusal}
    (hin : s.inbox = .write off width v :: rest) (hp : accessProblem off width = some p) : step s = .refused p := by
  simp only [step, acceptNext, hin, acceptEvent, hp]

/-- Rule R35 of 20_memory.md: every misaligned, narrow or outside access has a reason to be refused. -/
theorem exists_accessProblem {off width : Nat} (h : off % 4 ≠ 0 ∨ width ≠ 32 ∨ 0x1000 ≤ off) :
    ∃ p, accessProblem off width = some p := by
  apply Option.ne_none_iff_exists'.mp
  rw [Ne, accessProblem_eq_none]
  omega

/-! ## The obligations -/

/-- Settles O9: at a register's offset the reply is that register's word, elsewhere 0. -/
theorem hostReadReturnsTableWord : Obligations.HostReadReturnsTableWord := by
  intro s rest off hin halign hwin
  have reads (r : HostReg) (h : off = r.offset) : hostRead off (s.setInbox rest) = readReg r (s.setInbox rest) :=
    hostRead_of_eq_offset _ r h
  refine ⟨hostRead off (s.setInbox rest), step_of_read hin halign hwin, reads .err, reads .cost, reads .keylen,
    reads .saltlen, reads .left, reads .right, reads .blen, reads .clen, fun i => reads (.saltw i),
    fun i => reads (.digw i), fun i => reads (.bbufw i), fun i => reads (.cbufw i), fun hgap => ?_⟩
  apply hostRead_eq_zero
  rintro r rfl
  exact readReg_eq_zero_of_not_readable _ r hgap

/-- Settles O10: away from `CMD` the step is the store into the register of that offset, and a buffer
word's store is fixed byte by byte by `setBufWord_bytes`. -/
theorem hostWriteStoresByTable : Obligations.HostWriteStoresByTable := by
  intro s rest off v hin halign hwin
  have hstep : step s = hostWrite off v (s.setInbox rest) := step_of_write hin halign hwin
  have stores (r : HostReg) (hcmd : r ≠ .cmd) (h : off = r.offset) :
      step s = .next (writeReg r v (s.setInbox rest)) :=
    hstep.trans (hostWrite_of_eq_offset v _ hcmd h)
  refine ⟨?cmd, stores .cost nofun, stores .keylen nofun, stores .saltlen nofun, stores .left nofun,
    stores .right nofun, fun i h => ⟨_, stores (.saltw i) nofun h, setBufWord_bytes _ _ _ _⟩,
    fun i h => ⟨_, stores (.keyw i) nofun h, setBufWord_bytes _ _ _ _⟩,
    fun i h => ⟨_, stores (.bbufw i) nofun h, setBufWord_bytes _ _ _ _⟩,
    fun i h => ⟨_, stores (.cbufw i) nofun h, setBufWord_bytes _ _ _ _⟩, ?ignored⟩
  case cmd =>
    rintro rfl
    exact hstep.trans (hostWrite_cmd v _)
  case ignored =>
    intro hgap
    refine hstep.trans (hostWrite_eq_self (by omega) ?_)
    rintro r rfl
    exact writeReg_eq_self_of_not_writable v _ r hgap

/-- Settles O11: `accessProblem` names a reason for each access without a meaning, and an unassigned
offset is no register's. -/
theorem onlyAlignedWordAccessesStep : Obligations.OnlyAlignedWordAccessesStep := by
  intro s rest off width v
  constructor
  · intro hbad
    obtain ⟨p, hp⟩ := exists_accessProblem hbad
    exact ⟨fun hin => ⟨p, step_of_read_refused hin hp⟩, fun hin => ⟨p, step_of_write_refused hin hp⟩⟩
  · rintro halign rfl hwin hnone
    have hne : off ≠ 0 := (hnone .cmd).symm
    constructor
    · intro hin
      have hzero : hostRead off (s.setInbox rest) = 0 := hostRead_eq_zero fun r h => absurd h.symm (hnone r)
      rw [step_of_read hin halign hwin, hzero]
      rfl
    · intro hin
      exact (step_of_write hin halign hwin).trans (hostWrite_eq_self hne fun r h => absurd h.symm (hnone r))

end Sys2Proof.Machine
end

section
/-!
PROOFS. The command word (30_encoding.md). A row of the table of rule R50 selects a word exactly when
`rsv` is 0, `op` is the row's opcode and `arg` matches under the row's mask; the decoder accepts a word
exactly with the command of a row that selects it (`decode_eq_ok_iff`), and there is at most one such row.
-/

namespace Sys2Proof

/-! ## The fields of a word -/

/-- A word is its three fields, from the most significant end (rule R45). -/
theorem word_eq_join_fields (c : Word) : c = (rsvField c ++ argField c ++ opField c : BitVec (16 + 8 + 8)) := by
  have high_fields : (rsvField c ++ argField c : BitVec (16 + 8)) = c.extractLsb' 8 (16 + 8) :=
    BitVec.extractLsb'_append_extractLsb'_eq_extractLsb' rfl
  have all_fields : (c.extractLsb' 8 (16 + 8) ++ opField c : BitVec (16 + 8 + 8)) = c.extractLsb' 0 (16 + 8 + 8) :=
    BitVec.extractLsb'_append_extractLsb'_eq_extractLsb' rfl
  rw [high_fields, all_fields]
  exact BitVec.extractLsb'_eq_self.symm

theorem word_eq_iff_fields (c d : Word) :
    c = d ↔ rsvField c = rsvField d ∧ argField c = argField d ∧ opField c = opField d := by
  constructor
  · rintro rfl
    exact ⟨rfl, rfl, rfl⟩
  · rintro ⟨hrsv, harg, hop⟩
    rw [word_eq_join_fields c, word_eq_join_fields d, hrsv, harg, hop]

theorem rsvField_and (c m : Word) : rsvField (c &&& m) = rsvField c &&& rsvField m := BitVec.extractLsb'_and
theorem argField_and (c m : Word) : argField (c &&& m) = argField c &&& argField m := BitVec.extractLsb'_and
theorem opField_and (c m : Word) : opField (c &&& m) = opField c &&& opField m := BitVec.extractLsb'_and

/-- A part of `arg` is the same part of the word, eight bits up. -/
theorem extractLsb'_argField (c : Word) {start len : Nat} (h : start + len ≤ 8) :
    (argField c).extractLsb' start len = c.extractLsb' (8 + start) len := by
  ext k hk
  have inside : start + k < 8 := by omega
  simp [argField, inside, Nat.add_assoc]

/-- The count `n = c[13:8]` of rule R49 is the count that format N reads. -/
theorem nField_eq_argField (c : Word) : nField c = ((argField c).extractLsb' 0 6).toNat := by
  rw [nField, extractLsb'_argField c (by decide)]

/-! ## The rows of the table -/

/-- The opcodes of rule R50. -/
abbrev knownOpcodes : List (BitVec 8) := [0x01, 0x02, 0x03, 0x04, 0x05, 0x06, 0x07, 0x08, 0x10, 0x11]

theorem opField_pattern_mem {r : OpcodeRow} (hr : r ∈ opcodeRows) : opField r.pattern ∈ knownOpcodes := by
  have every_row : ∀ q ∈ opcodeRows, opField q.pattern ∈ knownOpcodes := by decide
  exact every_row r hr

/-- Every row of rule R50 masks `rsv` and `op` in full, and its `rsv` is 0. -/
theorem opcodeRows_fields {r : OpcodeRow} (hr : r ∈ opcodeRows) :
    rsvField r.mask = BitVec.allOnes 16 ∧ rsvField r.pattern = 0 ∧ opField r.mask = BitVec.allOnes 8 := by
  have every_row : ∀ q ∈ opcodeRows,
      rsvField q.mask = BitVec.allOnes 16 ∧ rsvField q.pattern = 0 ∧ opField q.mask = BitVec.allOnes 8 := by
    decide
  exact every_row r hr

/-- The part of rule R50's selection that reads `op` and `arg`; `selects_iff_fields` ties it to `Selects`. -/
abbrev OpcodeRow.SelectsFields (r : OpcodeRow) (op arg : BitVec 8) : Prop :=
  op = opField r.pattern ∧ arg &&& argField r.mask = argField r.pattern

theorem selects_iff_fields {r : OpcodeRow} (hr : r ∈ opcodeRows) (c : Word) :
    r.Selects c ↔ rsvField c = 0 ∧ r.SelectsFields (opField c) (argField c) := by
  obtain ⟨hrsv, hzero, hop⟩ := opcodeRows_fields hr
  rw [OpcodeRow.Selects, word_eq_iff_fields, rsvField_and, argField_and, opField_and, hrsv, hzero, hop,
    BitVec.and_allOnes, BitVec.and_allOnes, and_comm (a := _ = argField r.pattern)]

/-- Two rows are disjoint when their patterns differ in a bit that both masks cover. -/
theorem not_selects_both {a b : OpcodeRow} (h : a.pattern &&& b.mask ≠ b.pattern &&& a.mask) (c : Word) :
    ¬ (a.Selects c ∧ b.Selects c) := by
  rintro ⟨ha, hb⟩
  apply h
  calc a.pattern &&& b.mask = (c &&& a.mask) &&& b.mask := by rw [ha]
    _ = (c &&& b.mask) &&& a.mask := by rw [BitVec.and_assoc, BitVec.and_comm a.mask, BitVec.and_assoc]
    _ = b.pattern &&& a.mask := by rw [hb]

/-- Settles O3: for each two rows, the patterns differ under both masks. -/
theorem opcodeRowsDisjoint : Obligations.OpcodeRowsDisjoint := by
  have apart : opcodeRows.Pairwise fun a b => a.pattern &&& b.mask ≠ b.pattern &&& a.mask := by decide
  exact apart.imp not_selects_both

/-- Rule R51 for rows of the table: the row that selects a word is unique. -/
theorem eq_of_selects {a b : OpcodeRow} {c : Word} (ha : a ∈ opcodeRows) (hb : b ∈ opcodeRows)
    (hac : a.Selects c) (hbc : b.Selects c) : a = b := by
  have : Std.Symm fun a b : OpcodeRow => ∀ c, ¬ (a.Selects c ∧ b.Selects c) :=
    ⟨fun _ _ h c hc => h c hc.symm⟩
  by_contra hne
  exact opcodeRowsDisjoint.forall ha hb hne c ⟨hac, hbc⟩

/-! ## The three formats -/

/-- The check of format S: `arg[7:1]` is 0 exactly when `arg` is 0 or 1. -/
theorem sourceBits_eq_zero_iff (arg : BitVec 8) : arg.extractLsb' 1 7 = 0 ↔ arg.toNat ≤ 1 := by
  rw [← BitVec.toNat_inj, BitVec.extractLsb'_toNat, Nat.shiftRight_eq_div_pow]
  have hlt : arg.toNat < 256 := arg.isLt
  change arg.toNat / 2 ^ 1 % 2 ^ 7 = 0 ↔ arg.toNat ≤ 1
  omega

/-- The check of format N: `arg[7:6]` is 0 exactly when the mask of the two format-N rows finds 0. -/
theorem countBits_eq_zero_iff (arg : BitVec 8) : arg.extractLsb' 6 2 = 0 ↔ arg &&& 0xC0 = 0 := by
  revert arg
  decide

theorem formatZ_eq_ok_iff (arg : BitVec 8) (i j : Instr) : formatZ arg i = .ok j ↔ arg = 0 ∧ i = j := by
  unfold formatZ
  split_ifs <;> simp_all

/-- Format S accepts two operand bytes, one for each source. -/
theorem formatS_eq_ok_iff (arg : BitVec 8) (j : Instr) :
    formatS arg = .ok j ↔ (arg = 0 ∧ .expandstateK = j) ∨ (arg = 1 ∧ .expandstateS = j) := by
  by_cases hsource : arg.toNat ≤ 1
  · obtain rfl | rfl : arg = 0 ∨ arg = 1 := by bv_omega
    · simp [formatS]
    · simp [formatS]
  · have hzero : arg ≠ 0 := by bv_omega
    have hone : arg ≠ 1 := by bv_omega
    simp only [formatS, sourceBits_eq_zero_iff, hsource, hzero, hone]
    simp

theorem formatN_eq_ok_iff (arg : BitVec 8) (mk : Nat → Instr) (j : Instr) :
    formatN arg mk = .ok j ↔ arg &&& 0xC0 = 0 ∧ mk (arg.extractLsb' 0 6).toNat = j := by
  simp only [formatN, countBits_eq_zero_iff]
  split_ifs <;> simp_all

theorem exists_formatZ_eq_error_iff (arg : BitVec 8) (i : Instr) :
    (∃ e, formatZ arg i = .error e) ↔ arg ≠ 0 := by
  unfold formatZ
  split_ifs <;> simp_all

theorem exists_formatS_eq_error_iff (arg : BitVec 8) : (∃ e, formatS arg = .error e) ↔ 1 < arg.toNat := by
  simp only [formatS, sourceBits_eq_zero_iff]
  split_ifs <;> simp_all

theorem exists_formatN_eq_error_iff (arg : BitVec 8) (mk : Nat → Instr) :
    (∃ e, formatN arg mk = .error e) ↔ arg.extractLsb' 6 2 ≠ 0 := by
  unfold formatN
  split_ifs <;> simp_all

/-! ## The decoder against the table -/

theorem decodeFields_of_unknown {op : BitVec 8} (h : op ∉ knownOpcodes) (arg : BitVec 8) :
    decodeFields op arg = .error .unknownOpcode := by
  simp only [List.mem_cons, List.not_mem_nil, or_false, not_or] at h
  simp only [decodeFields, h, if_false]

/-- The `arg` part of a full-mask row's mask hides no bit. -/
theorem and_fullArgMask (arg : BitVec 8) : arg &&& 255#8 = arg := BitVec.and_allOnes

/-- The decoder's branches and the table's rows agree: opcode by opcode, the branch's format accepts
exactly the operand bytes of the rows with that opcode, two rows for 0x03 and one for each other. -/
theorem decodeFields_eq_ok_iff (op arg : BitVec 8) (i : Instr) :
    decodeFields op arg = .ok i ↔
      ∃ r ∈ opcodeRows, r.SelectsFields op arg ∧ r.command (arg.extractLsb' 0 6).toNat = i := by
  by_cases hop : op ∈ knownOpcodes
  · simp only [List.mem_cons, List.not_mem_nil, or_false] at hop
    rcases hop with rfl | rfl | rfl | rfl | rfl | rfl | rfl | rfl | rfl | rfl <;>
      simp [decodeFields, formatZ_eq_ok_iff, formatS_eq_ok_iff, formatN_eq_ok_iff, opcodeRows,
        OpcodeRow.SelectsFields, opField, argField, and_fullArgMask]
  · rw [decodeFields_of_unknown hop]
    constructor
    · nofun
    · rintro ⟨r, hr, ⟨rfl, -⟩, -⟩
      exact absurd (opField_pattern_mem hr) hop

/-- The list of rule R52 for a word with `rsv = 0`: each opcode's branch rejects what its format does. -/
theorem exists_decodeFields_eq_error_iff (op arg : BitVec 8) :
    (∃ e, decodeFields op arg = .error e) ↔
      op ∉ knownOpcodes ∨
      (op ∈ ([0x01, 0x02, 0x04, 0x05, 0x06, 0x07, 0x08] : List (BitVec 8)) ∧ arg ≠ 0) ∨
      (op = 0x03 ∧ 1 < arg.toNat) ∨
      (op ∈ ([0x10, 0x11] : List (BitVec 8)) ∧ arg.extractLsb' 6 2 ≠ 0) := by
  by_cases hop : op ∈ knownOpcodes
  · simp only [List.mem_cons, List.not_mem_nil, or_false] at hop
    rcases hop with rfl | rfl | rfl | rfl | rfl | rfl | rfl | rfl | rfl | rfl <;>
      simp [decodeFields, exists_formatZ_eq_error_iff, exists_formatS_eq_error_iff, exists_formatN_eq_error_iff]
  · simp only [decodeFields_of_unknown hop, hop]
    simp

/-- The decoder accepts a word exactly with the command of a row that selects it. -/
theorem decode_eq_ok_iff (c : Word) (i : Instr) :
    decode c = .ok i ↔ ∃ r ∈ opcodeRows, r.Selects c ∧ r.command (nField c) = i := by
  have by_fields : decode c = .ok i ↔ rsvField c = 0 ∧ decodeFields (opField c) (argField c) = .ok i := by
    unfold decode
    split_ifs <;> simp_all
  rw [by_fields, decodeFields_eq_ok_iff, nField_eq_argField]
  constructor
  · rintro ⟨hrsv, r, hr, hsel, hi⟩
    exact ⟨r, hr, (selects_iff_fields hr c).mpr ⟨hrsv, hsel⟩, hi⟩
  · rintro ⟨r, hr, hsel, hi⟩
    obtain ⟨hrsv, hfields⟩ := (selects_iff_fields hr c).mp hsel
    exact ⟨hrsv, r, hr, hfields, hi⟩

/-- Rule R52: a word is rejected exactly when no row selects it. -/
theorem exists_decode_eq_error_iff_no_row (c : Word) :
    (∃ e, decode c = .error e) ↔ ∀ r ∈ opcodeRows, ¬ r.Selects c := by
  constructor
  · rintro ⟨e, he⟩ r hr hsel
    have hok : decode c = .ok (r.command (nField c)) := (decode_eq_ok_iff c _).mpr ⟨r, hr, hsel, rfl⟩
    exact nomatch he.symm.trans hok
  · intro hnone
    cases hd : decode c with
    | error e => exact ⟨e, rfl⟩
    | ok i =>
      obtain ⟨r, hr, hsel, -⟩ := (decode_eq_ok_iff c i).mp hd
      exact absurd hsel (hnone r hr)

/-- Rule R52, field by field: `rsv` is read first. -/
theorem exists_decode_eq_error_iff_fields (c : Word) :
    (∃ e, decode c = .error e) ↔
      rsvField c ≠ 0 ∨ ∃ e, decodeFields (opField c) (argField c) = .error e := by
  unfold decode
  split_ifs <;> simp_all

end Sys2Proof

namespace Sys2Proof.Machine

/-! ## The step at a command word -/

theorem step_of_commandWord {s : State} {rest : List HostEvent} {c : Word}
    (hin : s.inbox = .write 0x000 32 c :: rest) : step s = execWord c (s.setInbox rest) :=
  (step_of_write hin (by decide) (by decide)).trans (hostWrite_cmd c _)

/-- A legal word performs its command (rule R49). -/
theorem execWord_of_ok {c : Word} {i : Instr} (h : decode c = .ok i) (s : State) : execWord c s = exec i s := by
  simp only [execWord, h]

/-- An illegal word sets `ERR` to 8 and nothing else, whatever is at fault in it (rule R52). -/
theorem execWord_of_error {c : Word} (h : ∃ e, decode c = .error e) (s : State) :
    execWord c s = .next (s.setErr 8) := by
  obtain ⟨e, he⟩ := h
  simp only [execWord, he]
  rfl

/-- A command ends in its error return or in its effect, so it always has a next state. -/
theorem exists_exec_eq_next (i : Instr) (s : State) : ∃ t, exec i s = .next t := by
  rw [exec_eq_complete]
  cases causeOf i s with
  | none => exact ⟨_, complete_none _ _ _⟩
  | some e => exact ⟨_, complete_some _ _ _ _⟩

/-- `Exec` is total on all words (rule R49). -/
theorem exists_execWord_eq_next (c : Word) (s : State) : ∃ t, execWord c s = .next t := by
  cases hd : decode c with
  | ok i => exact execWord_of_ok hd s ▸ exists_exec_eq_next i s
  | error e => exact ⟨_, execWord_of_error ⟨e, hd⟩ s⟩

/-! ## The obligations about a command word's step -/

/-- Settles O4: the decoder's answer says which alternative holds; on a command, `decode_eq_ok_iff` gives the
row and `eq_of_selects` that it is the only one. -/
theorem execOfCommandWord : Obligations.ExecOfCommandWord := by
  intro s rest c hin
  rw [step_of_commandWord hin]
  refine ⟨?_, exists_execWord_eq_next c _⟩
  cases hd : decode c with
  | ok i =>
    obtain ⟨r, hr, hsel, rfl⟩ := (decode_eq_ok_iff c i).mp hd
    refine .inl ⟨r, hr, hsel, fun r' hr' hsel' => ?_, execWord_of_ok hd _⟩
    rw [eq_of_selects hr' hr hsel' hsel]
  | error e => exact .inr ⟨(exists_decode_eq_error_iff_no_row c).mp ⟨e, hd⟩, execWord_of_error ⟨e, hd⟩ _⟩

/-- Settles O5: the decoder rejects a word exactly when no row selects it and exactly by the list of rule R52,
and `Exec` of a rejected word is the one write of `ERR`. -/
theorem illegalWordsSetErrOnly : Obligations.IllegalWordsSetErrOnly := by
  intro s rest c hin
  rw [step_of_commandWord hin]
  refine ⟨exists_decode_eq_error_iff_no_row c, ?_, fun h => execWord_of_error h _, exists_execWord_eq_next c _⟩
  rw [exists_decode_eq_error_iff_fields, exists_decodeFields_eq_error_iff, extractLsb'_argField c (by decide)]
  rfl

end Sys2Proof.Machine
end

section
/-!
PROOFS. The Base64 codec (40_base64.md). `CharVal` inverts the alphabet. The groups of rules R62 and R63 move
no bit: the values of `Enc` hold the bytes' bits and then zeros, and the bytes of `Dec` hold the first of the
values' bits. So cutting either bit string into equal pieces, as the forms by bit strings do, gives back the
list that the form by groups wrote.
-/

namespace Sys2Proof.Machine

/-! ## The alphabet -/

theorem charVal_alpha (v : BitVec 6) : charVal (alpha v) = some v := by
  revert v
  decide

theorem alpha_digit : ∀ d < 10, alpha (BitVec.ofNat 6 (54 + d)) = BitVec.ofNat 8 (0x30 + d) := by decide
theorem alpha_upper : ∀ d < 26, alpha (BitVec.ofNat 6 (2 + d)) = BitVec.ofNat 8 (0x41 + d) := by decide
theorem alpha_lower : ∀ d < 26, alpha (BitVec.ofNat 6 (28 + d)) = BitVec.ofNat 8 (0x61 + d) := by decide

/-- Range by range, the value of a code has the code as its character (rule R61). -/
theorem alpha_of_charVal {c : Byte} {v : BitVec 6} (h : charVal c = some v) : alpha v = c := by
  unfold charVal at h
  split_ifs at h with hdot hslash hdigit hupper hlower <;> cases h
  · exact BitVec.eq_of_toNat_eq hdot.symm
  · exact BitVec.eq_of_toNat_eq hslash.symm
  · rw [alpha_digit _ (by omega), Nat.add_sub_cancel' hdigit.1, BitVec.ofNat_toNat, BitVec.setWidth_eq]
  · rw [alpha_upper _ (by omega), Nat.add_sub_cancel' hupper.1, BitVec.ofNat_toNat, BitVec.setWidth_eq]
  · rw [alpha_lower _ (by omega), Nat.add_sub_cancel' hlower.1, BitVec.ofNat_toNat, BitVec.setWidth_eq]

theorem charVal_eq_none_of_le {c : Byte} (h : 0x80 ≤ c.toNat) : charVal c = none := by
  unfold charVal
  rw [if_neg (by omega), if_neg (by omega), if_neg (by omega), if_neg (by omega), if_neg (by omega)]

/-- Settles O47: the two inverse laws, the codes from 0x80 on, and the finite tables. -/
theorem charValInvertsAlphabet : Obligations.CharValInvertsAlphabet := by
  refine ⟨charVal_alpha, fun _ _ => alpha_of_charVal, ?count, ?listed, fun _ => charVal_eq_none_of_le, ?string⟩
  case count => decide +kernel
  case listed => decide
  case string => decide

/-! ## Bit strings -/

theorem msbBits_length {w : Nat} (x : BitVec w) : (msbBits x).length = w := by simp [msbBits]

theorem msbBits_append {m n : Nat} (x : BitVec m) (y : BitVec n) : msbBits (x ++ y) = msbBits x ++ msbBits y := by
  simp only [msbBits, List.range_add, List.map_append, List.map_map]
  congr 1
  · apply List.map_congr_left
    intro i hi
    rw [BitVec.getMsbD_append, if_neg (Nat.not_le.mpr (List.mem_range.mp hi))]
  · apply List.map_congr_left
    intro i _
    rw [Function.comp_apply, BitVec.getMsbD_append, if_pos (Nat.le_add_right m i), Nat.add_sub_cancel_left]

/-- The bits of a vector are those of its high part and then those of its low part. -/
theorem msbBits_split {w : Nat} (x : BitVec w) (high low : Nat) (h : w = high + low) :
    msbBits x = msbBits (x.extractLsb' low high) ++ msbBits (x.extractLsb' 0 low) := by
  subst h
  have hjoin : x.extractLsb' low high ++ x.extractLsb' 0 low = x := by
    rw [BitVec.extractLsb'_append_extractLsb'_eq_extractLsb' (by omega), BitVec.extractLsb'_eq_self]
  rw [← msbBits_append, hjoin]

theorem bitsValue_concat (bits : List Bool) (b : Bool) : bitsValue (bits ++ [b]) = 2 * bitsValue bits + b.toNat := by
  simp [bitsValue]

/-- The bits of a vector stand for its number: the last bit is the number's parity. -/
theorem bitsValue_msbBits {w : Nat} (x : BitVec w) : bitsValue (msbBits x) = x.toNat := by
  induction w with
  | zero => simp [BitVec.of_length_zero, msbBits, bitsValue]
  | succ w ih =>
    have hlast : msbBits (x.extractLsb' 0 1) = [x.getLsbD 0] := by simp [msbBits, BitVec.getMsbD_eq_getLsbD]
    have hhigh : (x.extractLsb' 1 w).toNat = x.toNat / 2 := by
      rw [BitVec.extractLsb'_toNat, Nat.shiftRight_one]
      exact Nat.mod_eq_of_lt (by have := x.isLt; omega)
    have hlow : (x.getLsbD 0).toNat = x.toNat % 2 := by rw [BitVec.getLsbD, Nat.toNat_testBit, pow_zero, Nat.div_one]
    rw [msbBits_split x w 1 rfl, hlast, bitsValue_concat, ih, hhigh, hlow, Nat.div_add_mod]

/-- The first `m` pieces of `w` bits of a bit string, as vectors; `encByBits_eq` and `decByBits_eq` say that
the forms by bit strings cut their strings so. -/
def bitPieces (w m : Nat) (bits : List Bool) : List (BitVec w) :=
  (List.range m).map fun i => BitVec.ofNat w (bitsValue ((bits.drop (w * i)).take w))

/-- The zeros that `Enc` appends to the bits of `n` bytes (rule R62). -/
def padding (n : Nat) : List Bool := List.replicate (6 * encLen n - 8 * n) false

theorem encByBits_eq (bs : List Byte) :
    encByBits bs = (bitPieces 6 (encLen bs.length) (bs.flatMap msbBits ++ padding bs.length)).map alpha := by
  simp [encByBits, bitPieces, padding, encLen]

theorem decByBits_eq (vs : List (BitVec 6)) :
    decByBits vs = bitPieces 8 (decLen vs.length) (vs.flatMap msbBits) := rfl

theorem bitPieces_succ (w m : Nat) (bits : List Bool) :
    bitPieces w (m + 1) bits = BitVec.ofNat w (bitsValue (bits.take w)) :: bitPieces w m (bits.drop w) := by
  simp [bitPieces, List.range_succ_eq_map, Nat.mul_succ, Nat.add_comm w]

/-- Cutting the bits of a list of vectors, whatever follows them, gives back the list. -/
theorem bitPieces_flatMap_msbBits {w : Nat} (xs : List (BitVec w)) (surplus : List Bool) :
    bitPieces w xs.length (xs.flatMap msbBits ++ surplus) = xs := by
  induction xs with
  | nil => rfl
  | cons x xs ih =>
    rw [List.length_cons, bitPieces_succ, List.flatMap_cons, List.append_assoc,
      List.take_left' (msbBits_length x), List.drop_left' (msbBits_length x), ih, bitsValue_msbBits,
      BitVec.ofNat_toNat, BitVec.setWidth_eq]

/-! ## The bits of a group -/

section Groups
variable (b0 b1 b2 : Byte) (v0 v1 v2 v3 : BitVec 6)

theorem msbBits_sextet1 : msbBits (sextet1 b0 b1) = msbBits (b0.extractLsb' 0 2) ++ msbBits (b1.extractLsb' 4 4) :=
  msbBits_append _ _

theorem msbBits_sextet2 : msbBits (sextet2 b1 b2) = msbBits (b1.extractLsb' 0 4) ++ msbBits (b2.extractLsb' 6 2) :=
  msbBits_append _ _

theorem msbBits_octet0 : msbBits (octet0 v0 v1) = msbBits v0 ++ msbBits (v1.extractLsb' 4 2) :=
  msbBits_append _ _

theorem msbBits_octet1 : msbBits (octet1 v1 v2) = msbBits (v1.extractLsb' 0 4) ++ msbBits (v2.extractLsb' 2 4) :=
  msbBits_append _ _

theorem msbBits_octet2 : msbBits (octet2 v2 v3) = msbBits (v2.extractLsb' 0 2) ++ msbBits v3 :=
  msbBits_append _ _

/-- A last group of one byte: its bits and the padding, four zeros. -/
theorem msbBits_group_of_one :
    msbBits (sextet0 b0) ++ msbBits (sextet1 b0 0) = msbBits b0 ++ padding 1 := by
  have hzero : msbBits ((0 : Byte).extractLsb' 4 4) = padding 1 := by decide
  rw [msbBits_sextet1, hzero, msbBits_split b0 6 2 rfl, List.append_assoc, sextet0]

/-- A last group of two bytes: their bits and the padding, two zeros. -/
theorem msbBits_group_of_two :
    msbBits (sextet0 b0) ++ msbBits (sextet1 b0 b1) ++ msbBits (sextet2 b1 0) =
      msbBits b0 ++ msbBits b1 ++ padding 2 := by
  have hzero : msbBits ((0 : Byte).extractLsb' 6 2) = padding 2 := by decide
  simp only [msbBits_sextet1, msbBits_sextet2, hzero, msbBits_split b0 6 2 rfl, msbBits_split b1 4 4 rfl,
    List.append_assoc, sextet0]

/-- The four values of a group hold the bits of its three bytes. -/
theorem msbBits_group_of_three :
    msbBits (sextet0 b0) ++ msbBits (sextet1 b0 b1) ++ msbBits (sextet2 b1 b2) ++ msbBits (sextet3 b2) =
      msbBits b0 ++ msbBits b1 ++ msbBits b2 := by
  simp only [msbBits_sextet1, msbBits_sextet2, msbBits_split b0 6 2 rfl, msbBits_split b1 4 4 rfl,
    msbBits_split b2 2 6 rfl, List.append_assoc, sextet0, sextet3]

/-- The byte of a last group of two values, and four surplus bits. -/
theorem msbBits_values_of_two :
    msbBits v0 ++ msbBits v1 = msbBits (octet0 v0 v1) ++ msbBits (v1.extractLsb' 0 4) := by
  rw [msbBits_octet0, msbBits_split v1 2 4 rfl, List.append_assoc]

/-- The bytes of a last group of three values, and two surplus bits. -/
theorem msbBits_values_of_three :
    msbBits v0 ++ msbBits v1 ++ msbBits v2 =
      msbBits (octet0 v0 v1) ++ msbBits (octet1 v1 v2) ++ msbBits (v2.extractLsb' 0 2) := by
  simp only [msbBits_octet0, msbBits_octet1, msbBits_split v1 2 4 rfl, msbBits_split v2 4 2 rfl, List.append_assoc]

/-- The three bytes of a group hold the bits of its four values. -/
theorem msbBits_values_of_four :
    msbBits v0 ++ msbBits v1 ++ msbBits v2 ++ msbBits v3 =
      msbBits (octet0 v0 v1) ++ msbBits (octet1 v1 v2) ++ msbBits (octet2 v2 v3) := by
  simp only [msbBits_octet0, msbBits_octet1, msbBits_octet2, msbBits_split v1 2 4 rfl, msbBits_split v2 4 2 rfl,
    List.append_assoc]

end Groups

/-! ## `Enc` -/

theorem encValues_length (bs : List Byte) : (encValues bs).length = encLen bs.length := by
  induction bs using encValues.induct with
  | case1 | case2 | case3 => simp [encValues, encLen]
  | case4 b0 b1 b2 rest ih => simp only [encValues, List.length_cons, ih, encLen]; omega

theorem enc_length (bs : List Byte) : (enc bs).length = encLen bs.length := by
  rw [enc, List.length_map, encValues_length]

theorem padding_add_three (n : Nat) : padding (n + 3) = padding n := by
  simp only [padding, encLen]
  congr 1
  omega

/-- The values of `Enc` hold the bits of the bytes and then the padding (rule R62). -/
theorem flatMap_msbBits_encValues (bs : List Byte) :
    (encValues bs).flatMap msbBits = bs.flatMap msbBits ++ padding bs.length := by
  induction bs using encValues.induct with
  | case1 => rfl
  | case2 b0 => simpa [encValues] using msbBits_group_of_one b0
  | case3 b0 b1 => simpa [encValues] using msbBits_group_of_two b0 b1
  | case4 b0 b1 b2 rest ih =>
    simp only [encValues, List.flatMap_cons, List.length_cons, padding_add_three, ih]
    simp only [← List.append_assoc, msbBits_group_of_three]

/-- Settles O48: the padded bit string is the bits of the group form's values, and its pieces are they. -/
theorem encodeIsBitString : Obligations.EncodeIsBitString := by
  intro bs
  refine ⟨?_, enc_length bs⟩
  have hpieces : bitPieces 6 (encLen bs.length) (bs.flatMap msbBits ++ padding bs.length) = encValues bs := by
    rw [← flatMap_msbBits_encValues, ← encValues_length]
    simpa using bitPieces_flatMap_msbBits (encValues bs) []
  rw [encByBits_eq, hpieces, enc]

/-! ## `Dec` -/

theorem decBytes_length (vs : List (BitVec 6)) : (decBytes vs).length = decLen vs.length := by
  induction vs using decBytes.induct with
  | case1 | case2 | case3 | case4 => simp [decBytes, decLen]
  | case5 v0 v1 v2 v3 rest ih => simp only [decBytes, List.length_cons, ih, decLen]; omega

/-- The values' bits are those of the bytes of `Dec` and then the surplus bits (rule R63). -/
theorem exists_surplus_decBytes (vs : List (BitVec 6)) :
    ∃ surplus, vs.flatMap msbBits = (decBytes vs).flatMap msbBits ++ surplus := by
  induction vs using decBytes.induct with
  | case1 => exact ⟨[], rfl⟩
  | case2 v0 => exact ⟨msbBits v0, by simp [decBytes]⟩
  | case3 v0 v1 => exact ⟨_, by simpa [decBytes] using msbBits_values_of_two v0 v1⟩
  | case4 v0 v1 v2 => exact ⟨_, by simpa [decBytes] using msbBits_values_of_three v0 v1 v2⟩
  | case5 v0 v1 v2 v3 rest ih =>
    obtain ⟨surplus, hrest⟩ := ih
    refine ⟨surplus, ?_⟩
    simp only [decBytes, List.flatMap_cons, hrest]
    simp only [← List.append_assoc, msbBits_values_of_four]

theorem decByBits_eq_decBytes (vs : List (BitVec 6)) : decByBits vs = decBytes vs := by
  obtain ⟨surplus, hbits⟩ := exists_surplus_decBytes vs
  rw [decByBits_eq, hbits, ← decBytes_length, bitPieces_flatMap_msbBits]

theorem charVals_eq_none_iff (cs : List Byte) : charVals cs = none ↔ ∃ c ∈ cs, charVal c = none := by
  induction cs with
  | nil => simp [charVals]
  | cons c cs ih =>
    rw [List.exists_mem_cons_iff, ← ih]
    cases hc : charVal c <;> cases hcs : charVals cs <;> simp [charVals, hc, hcs]

/-- A text has values exactly when it is the text of those values. -/
theorem charVals_eq_some_iff (cs : List Byte) (vs : List (BitVec 6)) : charVals cs = some vs ↔ cs = vs.map alpha := by
  induction cs generalizing vs with
  | nil => cases vs <;> simp [charVals]
  | cons c cs ih =>
    constructor
    · intro h
      unfold charVals at h
      split at h
      next v rest hc hcs =>
        cases h
        rw [List.map_cons, alpha_of_charVal hc, ← (ih rest).mp hcs]
      next => cases h
    · intro h
      obtain ⟨v, rest, rfl, rfl, htail⟩ := List.map_eq_cons_iff.mp h.symm
      simp only [charVals, charVal_alpha, (ih rest).mpr htail.symm]

/-- Rule R63: the two causes of `MalformedEncoding`. -/
theorem dec_eq_none_iff (cs : List Byte) : dec cs = none ↔ cs.length % 4 = 1 ∨ ∃ c ∈ cs, charVal c = none := by
  unfold dec
  split_ifs with hlen
  · simp [hlen]
  · simp [hlen, charVals_eq_none_iff]

theorem dec_map_alpha {vs : List (BitVec 6)} (h : vs.length % 4 ≠ 1) : dec (vs.map alpha) = some (decBytes vs) := by
  rw [dec, List.length_map, if_neg h, (charVals_eq_some_iff _ vs).mpr rfl, Option.map_some]

theorem dec_length {cs bs : List Byte} (h : dec cs = some bs) : bs.length = decLen cs.length := by
  unfold dec at h
  split_ifs at h
  obtain ⟨vs, hvs, rfl⟩ := Option.map_eq_some_iff.mp h
  rw [(charVals_eq_some_iff cs vs).mp hvs, List.length_map, decBytes_length]

/-- Settles O49: the causes are `dec_eq_none_iff`, and the pieces of the values' bits are the group form's bytes. -/
theorem decodeIsBitString : Obligations.DecodeIsBitString := by
  refine ⟨fun cs => (dec_eq_none_iff cs).symm, fun vs hlen => ?_⟩
  rw [decByBits_eq_decBytes]
  exact ⟨dec_map_alpha hlen, decBytes_length vs⟩

end Sys2Proof.Machine
end

section
/-!
PROOFS. The commands of the Base64 unit (40_base64.md rules R64 and R65): each ends in one of its errors or
writes the codec's result to the front of its buffer.
-/

namespace Sys2Proof.Machine

/-! ## Command words and buffers -/

/-- Rules R45 and R48 of 30_encoding.md: the word of a format-N command is its opcode and the count, eight bits up. -/
theorem countWord_eq (op n : Nat) (hop : op < 256) (hn : n < 64) :
    (0#16 ++ BitVec.ofNat 8 n ++ BitVec.ofNat 8 op : BitVec (16 + 8 + 8)) = BitVec.ofNat 32 (op ||| (n <<< 8)) := by
  have hword : op ||| (n <<< 8) < 2 ^ 32 := by
    have hcount : n <<< 8 < 2 ^ 32 := by rw [Nat.shiftLeft_eq]; omega
    exact Nat.or_lt_two_pow (by omega) hcount
  apply BitVec.eq_of_toNat_eq
  rw [BitVec.toNat_append, BitVec.toNat_append, BitVec.toNat_ofNat, BitVec.toNat_ofNat, BitVec.toNat_ofNat,
    BitVec.toNat_ofNat, Nat.mod_eq_of_lt hword, Nat.mod_eq_of_lt (show n < 2 ^ 8 by omega), Nat.mod_eq_of_lt hop]
  simp [Nat.or_comm]

/-- Rules R64 and R65: the first bytes of the buffer are the result, the others are kept. -/
theorem writeFront_bytes {n : Nat} (X : Vector Byte n) (bs : List Byte) (i : Fin n) :
    if i.val < bs.length then some (writeFront X bs)[i] = bs[i.val]? else (writeFront X bs)[i] = X[i] := by
  split_ifs with h
  · simp [h]
  · simp [h]

theorem writeFront_take {n m : Nat} (X : Vector Byte n) {bs : List Byte} (hlen : bs.length = m) (hm : m ≤ n) :
    (writeFront X bs).toList.take m = bs := by
  apply List.ext_getElem
  · simp [hlen, hm]
  · intro i hi hbs
    simp [hbs]

/-- A completed encode, field by field (rule R64). -/
theorem setText_succeed (s : State) (cs : List Byte) (m : Nat) :
    (s.setText cs m).succeed = { s with CBUF := writeFront s.CBUF cs, CLEN := BitVec.ofNat 6 m, ERR := 0 } := by
  apply State.ext <;> simp

/-- A completed decode, field by field (rule R65). -/
theorem setBinary_succeed (s : State) (bs : List Byte) (m : Nat) :
    (s.setBinary bs m).succeed = { s with BBUF := writeFront s.BBUF bs, BLEN := BitVec.ofNat 5 m, ERR := 0 } := by
  apply State.ext <;> simp

/-! ## `B64ENC` and `B64DEC` by their checks -/

theorem exec_b64enc_of_le {n : Nat} (h : n ≤ 24) (s : State) :
    exec (.b64enc n) s = .next (s.setText (enc (s.binaryFront n)) (encLen n)).succeed := by
  have hcause : encCause n = none := by rw [encCause_eq, if_neg (by omega)]
  rw [exec_eq_complete, causeOf, hcause, complete_none, effectOf]

theorem exec_b64enc_of_lt {n : Nat} (h : 24 < n) (s : State) : exec (.b64enc n) s = .next (s.setErr 7) := by
  have hcause : encCause n = some .bufferTooSmall := by rw [encCause_eq, if_pos h]
  rw [exec_eq_complete, causeOf, hcause]
  rfl

theorem decCause_eq (s : State) (n : Nat) :
    s.decCause n =
      if 32 < n then some .bufferTooSmall
      else if dec (s.textFront n) = none then some .malformedEncoding else none := rfl

theorem exec_b64dec_of_dec {n : Nat} {s : State} {bs : List Byte} (h : n ≤ 32)
    (hdec : dec (s.textFront n) = some bs) :
    exec (.b64dec n) s = .next (s.setBinary bs (decLen n)).succeed := by
  have hcause : s.decCause n = none := by rw [decCause_eq, if_neg (by omega), hdec, if_neg nofun]
  rw [exec_eq_complete, causeOf, hcause, complete_none, effectOf, hdec, Option.getD_some]

theorem exec_b64dec_of_malformed {n : Nat} {s : State} (h : n ≤ 32) (hdec : dec (s.textFront n) = none) :
    exec (.b64dec n) s = .next (s.setErr 4) := by
  have hcause : s.decCause n = some .malformedEncoding := by rw [decCause_eq, if_neg (by omega), if_pos hdec]
  rw [exec_eq_complete, causeOf, hcause]
  rfl

theorem exec_b64dec_of_lt {n : Nat} (h : 32 < n) (s : State) : exec (.b64dec n) s = .next (s.setErr 7) := by
  have hcause : s.decCause n = some .bufferTooSmall := by rw [decCause_eq, if_pos h]
  rw [exec_eq_complete, causeOf, hcause]
  rfl

theorem binaryFront_length {n : Nat} (h : n ≤ 24) (s : State) : (s.binaryFront n).length = n := by
  simpa [State.binaryFront] using h

theorem textFront_length {n : Nat} (h : n ≤ 32) (s : State) : (s.textFront n).length = n := by
  simpa [State.textFront] using h

/-! ## The obligations about the commands -/

/-- Settles O52: the count decides between the effect and the error, and the effect's text has `enc_length`
characters. -/
theorem b64encResult : Obligations.B64encResult := by
  intro n s
  refine ⟨countWord_eq 0x10 n (by decide), fun hn => ?effect, fun hn => exec_b64enc_of_lt hn s,
    fun hbytes => ?sample⟩
  case effect =>
    have hlen : (enc (s.binaryFront n)).length = (4 * n + 2) / 3 := by
      rw [enc_length, binaryFront_length hn, encLen]
    refine ⟨writeFront s.CBUF (enc (s.binaryFront n)), ?_, fun i => ?_⟩
    · rw [exec_b64enc_of_le hn, setText_succeed, encLen]
    · rw [← hlen]
      exact writeFront_bytes _ _ i
  case sample =>
    have henc : enc (s.binaryFront 4) = [0x2E, 0x4F, 0x47, 0x42, 0x2F, 0x2E] := by
      rw [State.binaryFront, hbytes]
      decide
    refine ⟨_, exec_b64enc_of_le (by decide) s, rfl, ?_⟩
    rw [State.succeed_CBUF, State.setText_CBUF, henc]
    exact writeFront_take s.CBUF rfl (by decide)

/-- Settles O53: `dec_eq_none_iff` says which of the texts of `n` characters decode, and a text that decodes
gives `dec_length` bytes. -/
theorem b64decResult : Obligations.B64decResult := by
  intro n s
  refine ⟨countWord_eq 0x11 n (by decide), fun hn hmod hchars => ?effect, fun hn hbad => ?malformed,
    fun hn => exec_b64dec_of_lt hn s, fun htext => ?sample⟩
  case effect =>
    have hdecodes : dec (s.textFront n) ≠ none := by
      rw [Ne, dec_eq_none_iff, textFront_length hn]
      rintro (hlen | ⟨c, hc, hnone⟩)
      · exact hmod hlen
      · exact hchars c hc hnone
    obtain ⟨bs, hbs⟩ := Option.ne_none_iff_exists'.mp hdecodes
    have hlen : bs.length = 3 * n / 4 := by rw [dec_length hbs, textFront_length hn, decLen]
    refine ⟨bs, writeFront s.BBUF bs, hbs, ?_, fun i => ?_⟩
    · rw [exec_b64dec_of_dec hn hbs, setBinary_succeed, decLen]
    · rw [← hlen]
      exact writeFront_bytes _ _ i
  case malformed =>
    apply exec_b64dec_of_malformed hn
    rw [dec_eq_none_iff, textFront_length hn]
    exact hbad
  case sample =>
    have hdec : dec (s.textFront 2) = some [0x43] := by
      rw [State.textFront]
      rcases htext with htext | htext <;> rw [htext] <;> decide
    refine ⟨_, exec_b64dec_of_dec (by decide) hdec, rfl, ?_⟩
    rw [State.succeed_BBUF, State.setBinary_BBUF, writeFront_getElem]
    rfl

end Sys2Proof.Machine
end

section
/-!
PROOFS. The two units read and write none of each other's registers (40_base64.md rule R68): a command's check
and its effect read registers of its own unit only, and its effect and its error return write no others but `ERR`.
-/

namespace Sys2Proof.Machine

/-! ## The two ways a command ends, for a relation between states -/

/-- A relation between the states before and after holds of a command if it holds of its two ways to end. -/
theorem exec_frame {R : State → State → Prop} {i : Instr} {s t : State} (h : exec i s = .next t)
    (hraise : ∀ e, R s (s.raise (unitOf i) e)) (heffect : R s (effectOf i s).succeed) : R s t := by
  rcases exec_cases h with ⟨e, -, rfl⟩ | ⟨-, rfl⟩
  · exact hraise e
  · exact heffect

/-- In two states in which it finds the same cause a command ends in the same way. -/
theorem exec_congr {R : State → State → Prop} {i : Instr} {s t u : State} (h : exec i s = .next t)
    (hcause : causeOf i s = causeOf i u) (hraise : ∀ e, R (s.raise (unitOf i) e) (u.raise (unitOf i) e))
    (heffect : R (effectOf i s).succeed (effectOf i u).succeed) :
    ∃ v, exec i u = .next v ∧ R t v ∧ t.ERR = v.ERR := by
  rw [exec_eq_complete i u, ← hcause]
  rcases exec_cases h with ⟨e, he, rfl⟩ | ⟨hnone, rfl⟩
  · refine ⟨_, by rw [he, complete_some], hraise e, ?_⟩
    rw [State.raise_ERR, State.raise_ERR]
  · refine ⟨_, by rw [hnone, complete_none], heffect, ?_⟩
    rw [State.succeed_ERR, State.succeed_ERR]

/-! ## What a command's check and effect read and write -/

section Units
variable {i : Instr} {s u : State}

theorem sameBlowfish_effectOf_of_base64 (hi : unitOf i = .base64) (s : State) : SameBlowfish s (effectOf i s) := by
  cases i with
  | b64enc n | b64dec n => simp [effectOf, SameBlowfish]
  | _ => cases hi

theorem causeOf_eq_of_sameBase64 (hi : unitOf i = .base64) (h : SameBase64 s u) : causeOf i s = causeOf i u := by
  obtain ⟨-, -, hcbuf, -⟩ := h
  cases i with
  | b64enc n => rfl
  | b64dec n =>
    have htext : s.textFront n = u.textFront n := by rw [State.textFront, State.textFront, hcbuf]
    rw [causeOf, causeOf, State.decCause, State.decCause, htext]
  | _ => cases hi

theorem effectOf_sameBase64 (hi : unitOf i = .base64) (h : SameBase64 s u) :
    SameBase64 (effectOf i s) (effectOf i u) := by
  obtain ⟨hbbuf, hblen, hcbuf, hclen⟩ := h
  cases i with
  | b64enc n => simp [effectOf, SameBase64, State.binaryFront, hbbuf, hblen, hcbuf]
  | b64dec n => simp [effectOf, SameBase64, State.textFront, hbbuf, hcbuf, hclen]
  | _ => cases hi

theorem sameBase64_effectOf_of_blowfish (hi : unitOf i = .blowfish) (s : State) : SameBase64 s (effectOf i s) := by
  cases i with
  | b64enc n | b64dec n => cases hi
  | _ => simp [effectOf, SameBase64]

theorem causeOf_eq_of_sameBlowfish (hi : unitOf i = .blowfish) (h : SameBlowfish s u) : causeOf i s = causeOf i u := by
  obtain ⟨-, -, -, hkeylen, -, hsaltlen, hcost, -, -, -⟩ := h
  cases i with
  | b64enc n | b64dec n => cases hi
  | _ =>
    simp only [causeOf, State.setupCause_eq, State.saltKeyCause_eq, State.keyCause_eq, State.saltCause_eq, hkeylen,
      hsaltlen, hcost]

theorem effectOf_sameBlowfish (hi : unitOf i = .blowfish) (h : SameBlowfish s u) :
    SameBlowfish (effectOf i s) (effectOf i u) := by
  obtain ⟨hP, hS, hkey, hkeylen, hsalt, hsaltlen, hcost, hL, hR, hdigest⟩ := h
  have hklen : s.klen = u.klen := by rw [State.klen, State.klen, hkeylen]
  have hsubkeys : s.subkeys = u.subkeys := by rw [State.subkeys, State.subkeys, hP, hS]
  have hderived : s.derivedSubkeys = u.derivedSubkeys := by
    rw [State.derivedSubkeys, State.derivedSubkeys, hkey, hklen, hsalt, hcost]
  cases i with
  | b64enc n | b64dec n => cases hi
  | _ => simp [effectOf, SameBlowfish, *]

end Units

/-- Settles O44: `exec_frame` for the registers of the other unit, `exec_congr` for those of the command's own. -/
theorem unitsAreIndependent : Obligations.UnitsAreIndependent := by
  intro i s t hexec
  constructor
  · intro hi
    refine ⟨exec_frame hexec ?_ ?_, fun u h => exec_congr hexec (causeOf_eq_of_sameBase64 hi h) ?_ ?_⟩
    · simp [hi, SameBlowfish]
    · simpa [SameBlowfish] using sameBlowfish_effectOf_of_base64 hi s
    · simpa [hi, SameBase64] using fun _ => h
    · simpa [SameBase64] using effectOf_sameBase64 hi h
  · intro hi
    refine ⟨exec_frame hexec ?_ ?_, fun u h => exec_congr hexec (causeOf_eq_of_sameBlowfish hi h) ?_ ?_⟩
    · simp [hi, SameBase64]
    · simpa [SameBase64] using sameBase64_effectOf_of_blowfish hi s
    · obtain ⟨-, -, -, -, hsalt, hsaltlen, hcost, hL, hR, hdigest⟩ := h
      simp [hi, SameBlowfish, hsalt, hsaltlen, hcost, hL, hR, hdigest]
    · simpa [SameBlowfish] using effectOf_sameBlowfish hi h

end Sys2Proof.Machine
end

section
/-!
PROOFS. `INIT` (41_init_constants.md rule R70): no check precedes it, so in every state it stores the initial
subkeys and clears `ERR`.
-/

namespace Sys2Proof.Machine

/-- The end of a command whose effect is to store subkeys, field by field. -/
theorem setSubkeys_succeed (s : State) (k : Subkeys) :
    (s.setSubkeys k).succeed = { s with P := k.P, S := k.S, ERR := 0 } := by
  apply State.ext <;> simp

theorem exec_init (s : State) : exec .init s = .next (s.setSubkeys piSubkeys).succeed := by
  rw [exec_eq_complete, causeOf, complete_none, effectOf]

/-- Settles O31: `INIT` has no cause of error and its effect stores `piSubkeys`; the sample words are read off the
tables, the last at the end of the fourth piece of `PI_S[3]`. -/
theorem initLoadsPi : Obligations.InitLoadsPi := by
  refine ⟨?word, fun s => ?effect, ?firstP, ?lastP, ?firstS, ?lastS⟩
  case word => decide
  case effect => rw [exec_init, setSubkeys_succeed, piSubkeys]
  case firstP | lastP | firstS | lastS => rfl

end Sys2Proof.Machine
end

section
/-!
PROOFS. F and block encryption (42_blowfish_core.md rules R80, R81, R84). `ENCBLOCK` has no check, so its state
after is read off the encryption of `(L, R)`; under zero subkeys each round is the swap of the two words.
-/

namespace Sys2Proof.Machine

/-! ## F -/

/-- F by the four bytes of its argument (rule R80). -/
theorem fFunction_be32 (S : Vector (Vector Word 256) 4) (a b c d : Byte) :
    fFunction S (be32 a b c d) =
      ((S[0][a.toNat]'a.isLt + S[1][b.toNat]'b.isLt) ^^^ S[2][c.toNat]'c.isLt) + S[3][d.toNat]'d.isLt := by
  simp only [fFunction, byteOf_be32_zero, byteOf_be32_one, byteOf_be32_two, byteOf_be32_three]

/-- Settles O19: F on four given bytes with its sums read in the naturals, `BE32` of a word's bytes, and the example
evaluated. -/
theorem fFunctionAddsXorsAdds : Obligations.FFunctionAddsXorsAdds := by
  refine ⟨fun S a b c d => ?nested, fun x => (be32_byteOf x).symm, ?firstSum, ?atZero⟩
  case nested => rw [fFunction_be32, BitVec.toNat_add, BitVec.toNat_xor, BitVec.toNat_add]
  case firstSum => decide +kernel
  case atZero => decide +kernel

/-! ## Encryption under zero subkeys -/

theorem fFunction_zeroSubkeys (x : Word) : fFunction zeroSubkeys.S x = 0 := by
  simp [fFunction, zeroSubkeys]

theorem feistelRound_zeroSubkeys (x : Block) (i : Fin 16) : feistelRound zeroSubkeys x i = x.swap := by
  rw [feistelRound, fFunction_zeroSubkeys]
  simp [zeroSubkeys, Prod.swap]

/-- The sixteen swaps of the rounds cancel, and the one undone at the end remains. -/
theorem encryptBlock_zeroSubkeys (x : Block) : encryptBlock zeroSubkeys x = x.swap := by
  have rounds_cancel : (List.finRange 16).foldl (feistelRound zeroSubkeys) x = x := by
    have hround : feistelRound zeroSubkeys = fun y _ => y.swap :=
      funext fun y => funext fun i => feistelRound_zeroSubkeys y i
    have hswap : Function.Involutive (Prod.swap : Block → Block) := Prod.swap_swap
    rw [hround, List.foldl_const, List.length_finRange, hswap.iterate_even (by decide), id]
  rw [encryptBlock, rounds_cancel]
  simp [zeroSubkeys, Prod.swap]

/-! ## `ENCBLOCK` -/

theorem exec_encblock (s : State) :
    exec .encblock s = .next (s.setBlock (encryptBlock s.subkeys (s.L, s.R))).succeed := by
  rw [exec_eq_complete, causeOf, complete_none, effectOf]

/-- The end of a command whose effect is to store a block, field by field. -/
theorem setBlock_succeed (s : State) (x : Block) :
    (s.setBlock x).succeed = { s with L := x.1, R := x.2, ERR := 0 } := by
  apply State.ext <;> simp

/-- `ENCBLOCK` by the value of the encryption of `(L, R)` (rule R84). -/
theorem exec_encblock_of_encryptBlock {s : State} {l r : Word} (h : encryptBlock s.subkeys (s.L, s.R) = (l, r)) :
    exec .encblock s = .next { s with L := l, R := r, ERR := 0 } := by
  rw [exec_encblock, h, setBlock_succeed]

/-- The example of rule R81: the zero block under the initial subkeys. -/
theorem encryptBlock_piSubkeys_zero : encryptBlock piSubkeys (0, 0) = (0x706D9FCC, 0x1792D23A) := by decide +kernel

/-- Settles O32: each clause is `exec_encblock_of_encryptBlock` at the encryption it names. -/
theorem encblockEncryptsDataRegisters : Obligations.EncblockEncryptsDataRegisters := by
  refine ⟨?word, fun s => ⟨?general, fun hP hS => ?zero, fun hP hS hL hR => ?pi⟩⟩
  case word => decide
  case general => exact fun l r h => exec_encblock_of_encryptBlock h
  case zero =>
    have hsubkeys : s.subkeys = zeroSubkeys := by rw [State.subkeys, hP, hS, zeroSubkeys]
    exact exec_encblock_of_encryptBlock (by rw [hsubkeys, encryptBlock_zeroSubkeys, Prod.swap_prod_mk])
  case pi =>
    have hsubkeys : s.subkeys = piSubkeys := by rw [State.subkeys, hP, hS, piSubkeys]
    exact exec_encblock_of_encryptBlock (by rw [hsubkeys, hL, hR, encryptBlock_piSubkeys_zero])

end Sys2Proof.Machine
end

section
/-!
PROOFS. The expansion (42_blowfish_core.md rules R82, R83). A stream read from position `4i mod len` gives word `i`
of the key stream, which fixes phase 1 and the data words of phase 2; the slot of number `t` holds flat words `2t`
and `2t + 1`. Both phases are folds, and each is followed by its first `t` turns.
-/

namespace Sys2Proof.Machine

/-! ## The stream by the index of its word -/

/-- Rule R82: from the position of word `i` the stream gives that word and the position of the next. -/
theorem streamWord_eq_keyStreamWord {n : Nat} (buf : Vector Byte n) (len i : Nat) :
    streamWord buf len (4 * i % len) = (keyStreamWord buf len i, 4 * (i + 1) % len) := by
  simp only [streamWord, keyStreamWord, Nat.mod_add_mod, Nat.mul_add_one]

/-- A stream of sixteen bytes repeats its four words. -/
theorem keyStreamWord_sixteen (salt : Vector Byte 16) (i : Nat) :
    keyStreamWord salt 16 i = bufWord salt (i % 4) (by omega) := by
  have bufByte_stream (b : Nat) (hb : b < 4) : bufByte salt ((4 * i + b) % 16) = salt[4 * (i % 4) + b] := by
    have hpos : (4 * i + b) % 16 = 4 * (i % 4) + b := by omega
    rw [hpos, bufByte_of_lt]
  rw [keyStreamWord, bufByte_stream 1 (by decide), bufByte_stream 2 (by decide), bufByte_stream 3 (by decide), bufWord]
  exact congrArg (be32 · _ _ _) (bufByte_stream 0 (by decide))

/-! ## Folds by their first turns -/

/-- A fold over one more element is one more turn. -/
theorem foldl_take_succ {α β : Type} (f : β → α → β) (b : β) {l : List α} {t : Nat} (h : t < l.length) :
    (l.take (t + 1)).foldl f b = f ((l.take t).foldl f b) l[t] := by
  rw [List.take_succ_eq_append_getElem h, List.foldl_append, List.foldl_cons, List.foldl_nil]

/-! ## Phase 1 -/

/-- Phase 1 after its first `t` turns: the words of `P`, the first `t` of them mixed, and the stream position. -/
def mixKeyAfter {n : Nat} (key : Vector Byte n) (klen : Nat) (P : Vector Word 18) (t : Nat) : Vector Word 18 × Nat :=
  ((List.finRange 18).take t).foldl (mixKeyWord key klen) (P, 0)

theorem mixKey_eq_mixKeyAfter {n : Nat} (key : Vector Byte n) (klen : Nat) (P : Vector Word 18) :
    mixKey key klen P = (mixKeyAfter key klen P 18).1 := rfl

theorem mixKeyAfter_succ {n : Nat} (key : Vector Byte n) (klen : Nat) (P : Vector Word 18) {t : Nat} (ht : t < 18) :
    mixKeyAfter key klen P (t + 1) = mixKeyWord key klen (mixKeyAfter key klen P t) ⟨t, ht⟩ := by
  have hlen : t < (List.finRange 18).length := by rwa [List.length_finRange]
  rw [mixKeyAfter, foldl_take_succ _ _ hlen, List.getElem_finRange]
  rfl

theorem mixKeyAfter_pos {n : Nat} (key : Vector Byte n) (klen : Nat) (P : Vector Word 18) (t : Nat) (ht : t ≤ 18) :
    (mixKeyAfter key klen P t).2 = 4 * t % klen := by
  induction t with
  | zero => simp [mixKeyAfter]
  | succ t ih =>
    rw [mixKeyAfter_succ key klen P ht, mixKeyWord, ih (by omega), streamWord_eq_keyStreamWord]

theorem mixKeyAfter_getElem {n : Nat} (key : Vector Byte n) (klen : Nat) (P : Vector Word 18) (t : Nat) (ht : t ≤ 18)
    (i : Nat) (hi : i < 18) :
    (mixKeyAfter key klen P t).1[i] = if i < t then P[i] ^^^ keyStreamWord key klen i else P[i] := by
  induction t with
  | zero => simp [mixKeyAfter]
  | succ t ih =>
    rw [mixKeyAfter_succ key klen P ht, mixKeyWord, mixKeyAfter_pos key klen P t (by omega),
      streamWord_eq_keyStreamWord]
    simp only [Vector.getElem_set]
    by_cases hit : t = i
    · subst hit
      rw [if_pos rfl, ih (by omega), if_neg (lt_irrefl t), if_pos (Nat.lt_succ_self t)]
    · have hlt : i < t + 1 ↔ i < t := by omega
      simp only [if_neg hit, ih (by omega), hlt]

/-- Phase 1, closed: word `i` of `P` is xored with word `i` of the key stream (rule R83). -/
theorem mixKey_getElem {n : Nat} (key : Vector Byte n) (klen : Nat) (P : Vector Word 18) (i : Nat) (hi : i < 18) :
    (mixKey key klen P)[i] = P[i] ^^^ keyStreamWord key klen i := by
  rw [mixKey_eq_mixKeyAfter]
  simp only [mixKeyAfter_getElem key klen P 18 le_rfl i hi, if_pos hi]

/-! ## The flat order of the subkey words -/

/-- A word replaced in one of the vectors is the word replaced in all of them laid end to end. -/
theorem flatMap_toList_set {α : Type} {w : Nat} (L : List (Vector α w)) (b m : Nat) (hb : b < L.length) (hm : m < w)
    (v : α) : (L.set b (L[b].set m v)).flatMap Vector.toList = (L.flatMap Vector.toList).set (w * b + m) v := by
  induction L generalizing b with
  | nil => cases hb
  | cons x L ih =>
    cases b with
    | zero => simp [List.set_append_left, hm, Vector.toList_set]
    | succ b =>
      have hpast : w * (b + 1) + m - w = w * b + m := by rw [Nat.mul_add_one]; omega
      simp only [List.set_cons_succ, List.getElem_cons_succ, List.flatMap_cons]
      rw [ih b (by simpa using hb), List.set_append_right _ _ (by simp [Nat.mul_add_one]; omega),
        Vector.length_toList, hpast]

theorem Subkeys.flat_length (k : Subkeys) : k.flat.length = 1042 := by
  simp [Subkeys.flat, List.length_flatMap]

theorem Subkeys.flat_set_P (k : Subkeys) (m : Nat) (hm : m < 18) (v : Word) :
    ({ k with P := k.P.set m v } : Subkeys).flat = k.flat.set m v := by
  rw [Subkeys.flat, Subkeys.flat, Vector.toList_set, List.set_append_left _ _ (by simpa using hm)]

theorem Subkeys.flat_set_S (k : Subkeys) (b m : Nat) (hb : b < 4) (hm : m < 256) (v : Word) :
    ({ k with S := k.S.set b (k.S[b].set m v) } : Subkeys).flat = k.flat.set (18 + 256 * b + m) v := by
  have hboxes := flatMap_toList_set k.S.toList b m (by simpa using hb) hm v
  have hindex : 18 + 256 * b + m - 18 = 256 * b + m := by omega
  rw [Vector.getElem_toList, ← Vector.toList_set] at hboxes
  rw [Subkeys.flat, Subkeys.flat, List.set_append_right _ _ (by simp; omega), Vector.length_toList, hindex, ← hboxes]

/-- One pair replaced is the two flat words of its slot's number replaced. -/
theorem Subkeys.put_flat (k : Subkeys) (slot : Slot) (y : Block) :
    (k.put slot y).flat = (k.flat.set (2 * slotNumber slot) y.1).set (2 * slotNumber slot + 1) y.2 := by
  cases slot with
  | p i =>
    have hi := i.isLt
    rw [slotNumber, ← k.flat_set_P (2 * i.val) (by omega) y.1,
      ← Subkeys.flat_set_P _ (2 * i.val + 1) (by omega) y.2]
    rfl
  | s b j =>
    have hb := b.isLt
    have hj := j.isLt
    have hfirst : 2 * (9 + 128 * b.val + j.val) = 18 + 256 * b.val + 2 * j.val := by omega
    rw [slotNumber, hfirst, Nat.add_assoc (18 + 256 * b.val), ← k.flat_set_S b (2 * j.val) hb (by omega) y.1,
      ← Subkeys.flat_set_S _ b (2 * j.val + 1) hb (by omega) y.2]
    simp [Subkeys.put]

theorem slotNumber_slots {t : Nat} (ht : t < slots.length) : slotNumber slots[t] = t := by
  have hmap : (slots.map slotNumber)[t]'(by simpa using ht) = t := by
    simp only [slots_eq_ordered, List.getElem_range]
  simpa using hmap

/-! ## Phase 2 -/

/-- The running values of phase 2 after its first `t` encryptions. -/
def chainAfter (data : Option (Vector Byte 16)) (c : Chain) (t : Nat) : Chain :=
  (slots.take t).foldl (expandSlot data) c

@[simp] theorem chainAfter_zero (data : Option (Vector Byte 16)) (c : Chain) : chainAfter data c 0 = c := rfl

theorem chainAfter_succ (data : Option (Vector Byte 16)) (c : Chain) {t : Nat} (ht : t < slots.length) :
    chainAfter data c (t + 1) = expandSlot data (chainAfter data c t) slots[t] :=
  foldl_take_succ _ _ ht

theorem expand_eq_chainAfter {n : Nat} (k : Subkeys) (key : Vector Byte n) (klen : Nat)
    (data : Option (Vector Byte 16)) :
    expand k key klen data = (chainAfter data (expandStart k key klen) 521).keys := by
  have take_all : slots.take 521 = slots := List.take_of_length_le slots_length.le
  rw [chainAfter, take_all]
  unfold expand
  rfl

/-- With data, an encryption that begins at the position of data word `i` takes words `i` and `i + 1`. -/
theorem mixData_some {salt : Vector Byte 16} {c : Chain} {i : Nat} (hpos : c.pos = 4 * i % 16) :
    mixData (some salt) c =
      ((c.block.1 ^^^ bufWord salt (i % 4) (by omega), c.block.2 ^^^ bufWord salt ((i + 1) % 4) (by omega)),
        4 * (i + 2) % 16) := by
  simp only [mixData, hpos, streamWord_eq_keyStreamWord, keyStreamWord_sixteen]

/-- The data words of encryption `t`: the first two when `t` is even, the last two when `t` is odd. -/
theorem mixData_some_parity {salt : Vector Byte 16} {c : Chain} {t : Nat} (hpos : c.pos = 4 * (2 * t) % 16) :
    (mixData (some salt) c).1 =
      if t % 2 = 0 then (c.block.1 ^^^ bufWord salt 0 (by decide), c.block.2 ^^^ bufWord salt 1 (by decide))
      else (c.block.1 ^^^ bufWord salt 2 (by decide), c.block.2 ^^^ bufWord salt 3 (by decide)) := by
  rw [mixData_some hpos]
  split
  · have hfirst : 2 * t % 4 = 0 := by omega
    have hsecond : (2 * t + 1) % 4 = 1 := by omega
    simp only [hfirst, hsecond]
  · have hfirst : 2 * t % 4 = 2 := by omega
    have hsecond : (2 * t + 1) % 4 = 3 := by omega
    simp only [hfirst, hsecond]

/-- Each encryption takes two data words, so the one of number `t` begins at data word `2t`. -/
theorem chainAfter_pos (salt : Vector Byte 16) {c : Chain} (hc : c.pos = 0) (t : Nat) (ht : t ≤ slots.length) :
    (chainAfter (some salt) c t).pos = 4 * (2 * t) % 16 := by
  induction t with
  | zero => exact hc
  | succ t ih =>
    rw [chainAfter_succ _ _ ht, expandSlot_pos, mixData_some (ih (by omega)), Nat.mul_add_one 2]

/-- The block chained into encryption `t`: the one before it, at first zero. -/
theorem chainAfter_block_pred (data : Option (Vector Byte 16)) {c : Chain} (hc : c.block = (0, 0)) (t : Nat) :
    (chainAfter data c t).block = if t = 0 then (0, 0) else (chainAfter data c (t - 1 + 1)).block := by
  cases t with
  | zero => exact hc
  | succ t => rfl

/-- Settles O24: `ks t` and the outputs are those of the chain after `t` and `t + 1` encryptions. Phase 1 is
`mixKey_getElem`, one encryption `chainAfter_succ`, its data words `mixData_some_parity`, its flat
words `Subkeys.put_flat`. -/
theorem expandChainsOverFlatSubkeys : Obligations.ExpandChainsOverFlatSubkeys := by
  intro n key klen k data _ _
  refine ⟨fun t => (chainAfter data (expandStart k key klen) t).keys,
    fun t => (chainAfter data (expandStart k key klen) (t + 1)).block, ?phase1, ?boxes, ?encryption, ?words, ?last⟩
  case phase1 => exact fun i => mixKey_getElem key klen k.P i i.isLt
  case boxes => simp only [chainAfter_zero, expandStart]
  case encryption =>
    intro t ht
    have hslot : t < slots.length := by rwa [slots_length]
    have hprev := chainAfter_block_pred data (c := expandStart k key klen) rfl t
    simp only [chainAfter_succ data _ hslot, expandSlot_block, expandSlot_keys, Subkeys.put_flat,
      slotNumber_slots hslot, ← hprev, and_true]
    cases data with
    | none => rw [mixData_none]
    | some salt => rw [mixData_some_parity (chainAfter_pos salt rfl t hslot.le)]
  case words => exact Subkeys.flat_length _
  case last => exact expand_eq_chainAfter k key klen data

end Sys2Proof.Machine
end

section
/-!
PROOFS. The digest and the scrub (43_eksblowfish.md rules R98, R102). A pass acts on each of the three blocks alone,
so taking block `b` commutes with the 64 passes; the store puts block `b` in bytes `8b` to `8b + 7`. `SCRUB` has no
check, so its state after is read off `Scrub()`, which keeps a clean state as it is.
-/

namespace Sys2Proof.Machine

/-! ## The digest by blocks -/

/-- One pass encrypts block `b` and reads no other block. -/
theorem ecbPass_semiconj (k : Subkeys) (b : Fin 3) :
    Function.Semiconj (fun ct : Vector Block 3 => ct[b]) (ecbPass k) (encryptBlock k) :=
  fun _ => Vector.getElem_map (encryptBlock k) b.isLt

/-- So block `b` after `m` passes is block `b` encrypted `m` times (ECB: the blocks never mix). -/
theorem ecbPass_iterate_getElem (k : Subkeys) (m : Nat) (ct : Vector Block 3) (b : Fin 3) :
    ((ecbPass k)^[m] ct)[b] = (encryptBlock k)^[m] ct[b] :=
  (ecbPass_semiconj k b).iterate_right m ct

/-- The first word of block `b` is stored big-endian from byte `8b` on. -/
theorem blockBytes_fst (ct : Vector Block 3) (b : Fin 3) (j : Fin 4) {q : Nat} (hq : q < 24)
    (h : q = 8 * b.val + j.val) : (blockBytes ct)[q] = byteOf ct[b].1 j.val := by
  have hbyte : q % 4 = j.val := by omega
  have heven : q / 4 % 2 = 0 := by omega
  have hblock : q / 4 / 2 = b.val := by omega
  simp [blockBytes, blockWord, hbyte, heven, hblock]

/-- The second word of block `b` is stored big-endian from byte `8b + 4` on. -/
theorem blockBytes_snd (ct : Vector Block 3) (b : Fin 3) (j : Fin 4) {q : Nat} (hq : q < 24)
    (h : q = 8 * b.val + 4 + j.val) : (blockBytes ct)[q] = byteOf ct[b].2 j.val := by
  have hbyte : q % 4 = j.val := by omega
  have hodd : q / 4 % 2 = 1 := by omega
  have hblock : q / 4 / 2 = b.val := by omega
  simp [blockBytes, blockWord, hbyte, hodd, hblock]

/-- The digest's bytes of the first word of block `b` (rule R98). -/
theorem ecbMagic_fst (k : Subkeys) (b : Fin 3) (j : Fin 4) {q : Nat} (hq : q < 24) (h : q = 8 * b.val + j.val) :
    (ecbMagic k)[q] = byteOf ((encryptBlock k)^[64] magicBlocks[b]).1 j.val := by
  simp only [ecbMagic, blockBytes_fst _ b j hq h, ecbPass_iterate_getElem]

/-- The digest's bytes of the second word of block `b` (rule R98). -/
theorem ecbMagic_snd (k : Subkeys) (b : Fin 3) (j : Fin 4) {q : Nat} (hq : q < 24) (h : q = 8 * b.val + 4 + j.val) :
    (ecbMagic k)[q] = byteOf ((encryptBlock k)^[64] magicBlocks[b]).2 j.val := by
  simp only [ecbMagic, blockBytes_snd _ b j hq h, ecbPass_iterate_getElem]

/-- The magic text as six words, loaded big-endian (rule R97). -/
theorem magicBlocks_eq :
    magicBlocks = #v[(0x4F727068, 0x65616E42), (0x65686F6C, 0x64657253), (0x63727944, 0x6F756274)] := by
  decide

/-- Settles O29: word by word `ecbMagic_fst` and `ecbMagic_snd`, at the blocks that `magicBlocks_eq` names. -/
theorem ecbMagicEncryptsEachBlockAlone : Obligations.EcbMagicEncryptsEachBlockAlone := by
  intro k y0 y1 y2 j
  have hy0 : y0 = (encryptBlock k)^[64] magicBlocks[(0 : Fin 3)] := by rw [magicBlocks_eq]; rfl
  have hy1 : y1 = (encryptBlock k)^[64] magicBlocks[(1 : Fin 3)] := by rw [magicBlocks_eq]; rfl
  have hy2 : y2 = (encryptBlock k)^[64] magicBlocks[(2 : Fin 3)] := by rw [magicBlocks_eq]; rfl
  rw [hy0, hy1, hy2]
  exact ⟨ecbMagic_fst k 0 j _ (Nat.zero_add _).symm, ecbMagic_snd k 0 j _ rfl, ecbMagic_fst k 1 j _ rfl,
    ecbMagic_snd k 1 j _ rfl, ecbMagic_fst k 2 j _ rfl, ecbMagic_snd k 2 j _ rfl⟩

/-! ## `SCRUB` -/

theorem exec_scrub (s : State) : exec .scrub s = .next s.scrub.succeed := by
  rw [exec_eq_complete, causeOf, complete_none, effectOf]

/-- A vector is constant when each of its elements is (the form in which `State.Clean` gives a zero register). -/
theorem eq_replicate_of_getElem {α : Type} {n : Nat} {v : Vector α n} {a : α} (h : ∀ i : Fin n, v[i] = a) :
    v = Vector.replicate n a :=
  Vector.ext fun i hi => (h ⟨i, hi⟩).trans (Vector.getElem_replicate hi).symm

/-- `Scrub()` keeps a state whose sensitive registers are zero already. -/
theorem scrub_eq_self_of_clean {s : State} (h : s.Clean) : s.scrub = s := by
  obtain ⟨hP, hS, hkey, hkeylen⟩ := h
  have hboxes : s.S = Vector.replicate 4 (Vector.replicate 256 0) :=
    eq_replicate_of_getElem fun b => eq_replicate_of_getElem (hS b)
  rw [State.ext_iff]
  simp [eq_replicate_of_getElem hP, hboxes, eq_replicate_of_getElem hkey, hkeylen]

theorem succeed_succeed (s : State) : s.succeed.succeed = s.succeed := rfl

/-- Settles O39: the frame is that of `Scrub()` register by register; the second `SCRUB` finds a clean state with
`ERR` 0, which both its actions keep. -/
theorem scrubZeroesSensitiveState : Obligations.ScrubZeroesSensitiveState := by
  refine ⟨by decide, fun s => ?_⟩
  have hclean : s.scrub.succeed.Clean := s.scrub_clean
  refine ⟨s.scrub.succeed, exec_scrub s, hclean, ?frame, ?again⟩
  case frame => apply State.ext <;> simp
  case again => rw [exec_scrub, scrub_eq_self_of_clean hclean, succeed_succeed]

end Sys2Proof.Machine
end

section
/-!
PROOFS. The errors of the commands (60_exceptions.md rules R112, R113, R115). A command that leaves `ERR` not 0
ended in its error return, so its state after is `State.raise` of the state before, and the error is the cause its
checks found; which causes they can find is read off the checks.
-/

namespace Sys2Proof.Machine

/-! ## The failing command -/

/-- A command that leaves `ERR` not 0 ended in its error return: its other end leaves 0. -/
theorem exec_failed {i : Instr} {s t : State} (h : exec i s = .next t) (herr : t.ERR ≠ 0) :
    ∃ e, causeOf i s = some e ∧ t = s.raise (unitOf i) e := by
  rcases exec_cases h with hraised | ⟨-, rfl⟩
  · exact hraised
  · exact absurd (State.succeed_ERR _) herr

/-- The error return of the Blowfish unit, field by field: only what `Scrub()` zeroes, and `ERR` (rule R116). -/
theorem raise_blowfish_frame (s : State) (e : ErrorKind) :
    s.raise .blowfish e =
      { s with P := s.scrub.P, S := s.scrub.S, KEY := s.scrub.KEY, KEYLEN := s.scrub.KEYLEN, ERR := e.code } := by
  apply State.ext <;> simp

/-- Settles O42: a failing command's state after is its unit's error return. -/
theorem failingCommandIsAllOrNothing : Obligations.FailingCommandIsAllOrNothing := by
  refine ⟨fun i s t hexec herr => ?command, fun c s hc => execWord_of_error hc s⟩
  obtain ⟨e, -, rfl⟩ := exec_failed hexec herr
  constructor
  · intro hi
    rw [hi]
    exact ⟨s.scrub_clean, raise_blowfish_frame s e⟩
  · intro hi
    rw [hi]
    rfl

/-! ## The causes of each command -/

section Causes
variable {s : State} {e : ErrorKind}

/-- One check finds its own error or none. -/
theorem mem_of_check {p : Prop} [Decidable p] {a : ErrorKind} (h : (if p then some a else none) = some e) :
    e ∈ [a] := by
  obtain ⟨-, ha⟩ := Option.ite_none_right_eq_some.mp h
  exact List.mem_singleton.mpr (Option.some_inj.mp ha).symm

theorem mem_of_keyCause (h : s.keyCause = some e) : e ∈ [.invalidKey] := mem_of_check h
theorem mem_of_saltCause (h : s.saltCause = some e) : e ∈ [.invalidSalt] := mem_of_check h
theorem mem_of_encCause {n : Nat} (h : encCause n = some e) : e ∈ [.bufferTooSmall] := mem_of_check h

theorem mem_of_saltKeyCause (h : s.saltKeyCause = some e) : e ∈ [.invalidSalt, .invalidKey] := by
  rw [State.saltKeyCause_eq] at h
  split_ifs at h
  · simp [Option.some_inj.mp h]
  · exact List.mem_cons_of_mem _ (mem_of_keyCause h)

theorem mem_of_setupCause (h : s.setupCause = some e) : e ∈ [.invalidCost, .invalidSalt, .invalidKey] := by
  rw [State.setupCause_eq] at h
  split_ifs at h
  · simp [Option.some_inj.mp h]
  · exact List.mem_cons_of_mem _ (mem_of_saltKeyCause h)

theorem mem_of_decCause {n : Nat} (h : s.decCause n = some e) : e ∈ [.bufferTooSmall, .malformedEncoding] := by
  rw [decCause_eq] at h
  split at h
  · simp [Option.some_inj.mp h]
  · exact List.mem_cons_of_mem _ (mem_of_check h)

/-- A command's checks find no error outside its list (rule R112). -/
theorem causeOf_mem_errorsOf {i : Instr} (h : causeOf i s = some e) : e ∈ errorsOf i := by
  cases i with
  | init | encblock | ecbmagic | scrub => cases h
  | expandkey => exact mem_of_saltKeyCause h
  | expandstateK => exact mem_of_keyCause h
  | expandstateS => exact mem_of_saltCause h
  | ekssetup | bcrypt => exact mem_of_setupCause h
  | b64enc n => exact mem_of_encCause h
  | b64dec n => exact mem_of_decCause h

end Causes

/-! ## Each listed error is raised -/

/-- A cause that the checks find ends the command in the error return (rule R113). -/
theorem exec_of_causeOf {i : Instr} {s : State} {e : ErrorKind} (h : causeOf i s = some e) :
    exec i s = .next (s.raise (unitOf i) e) := by
  rw [exec_eq_complete, h, complete_some]

/-- A state whose inputs pass the checks that stand before the one of this error and fail that one (rule R114);
after reset every check of the Blowfish unit fails. -/
def inputsRaising : ErrorKind → State
  | .invalidSalt => State.reset.setCost 4
  | .invalidKey => (State.reset.setCost 4).setSaltlen 16
  | _ => State.reset

/-- One state for each error raises it in every command of the Blowfish unit that lists it. -/
theorem causeOf_inputsRaising {i : Instr} (hi : unitOf i = .blowfish) :
    ∀ e ∈ errorsOf i, causeOf i (inputsRaising e) = some e := by
  cases i with
  | b64enc n | b64dec n => cases hi
  | init | encblock | ecbmagic | scrub => exact nofun
  | expandkey | expandstateK | expandstateS | ekssetup | bcrypt => decide

/-- A text of one character does not decode, whatever it is (rule R63). -/
theorem dec_textFront_one (s : State) : dec (s.textFront 1) = none :=
  (dec_eq_none_iff _).mpr (.inl (by rw [textFront_length (by decide)]))

/-- Settles O43: `causeOf_mem_errorsOf` bounds the errors, and `inputsRaising` and the counts 25, 33 and 1 raise
each of them. -/
theorem errorsOfEachCommand : Obligations.ErrorsOfEachCommand := by
  refine ⟨fun i s t hexec => ?bound, fun i hi => ?blowfish, fun e he => ?b64enc, fun e he => ?b64dec,
    fun c s hc => ⟨_, execWord_of_error hc s, rfl⟩⟩
  case bound =>
    rcases exec_cases hexec with ⟨e, hcause, rfl⟩ | ⟨-, rfl⟩
    · exact .inr ⟨e, causeOf_mem_errorsOf hcause, State.raise_ERR _ _ _⟩
    · exact .inl (State.succeed_ERR _)
  case blowfish =>
    have hunit : unitOf i = .blowfish := by
      revert i
      decide
    intro e he
    exact ⟨inputsRaising e, _, exec_of_causeOf (causeOf_inputsRaising hunit e he), State.raise_ERR _ _ _⟩
  case b64enc =>
    obtain rfl := List.mem_singleton.mp he
    exact ⟨25, State.reset, _, exec_b64enc_of_lt (by decide) _, rfl⟩
  case b64dec =>
    rcases List.mem_pair.mp he with rfl | rfl
    · exact ⟨33, State.reset, _, exec_b64dec_of_lt (by decide) _, rfl⟩
    · exact ⟨1, State.reset, _, exec_b64dec_of_malformed (by decide) (dec_textFront_one _), rfl⟩

end Sys2Proof.Machine
end

section
/-!
PROOFS. The state after `Reset` (70_reset_and_hazards.md rule R131). `State.hostReset` holds zero in each of the 15
elements, so the subkeys are `zeroSubkeys`, the state is clean already, and the cost check of `BCRYPT` fails.
-/

namespace Sys2Proof.Machine

/-! ## The step at a reset, and the subkeys it leaves -/

/-- The step at a `Reset` clears every element, whatever the state. -/
theorem step_of_reset {s : State} {rest : List HostEvent} (hin : s.inbox = .reset :: rest) :
    step s = .next (s.setInbox rest).hostReset := by
  simp only [step, acceptNext, hin, acceptEvent]

theorem hostReset_clean (s : State) : s.hostReset.Clean := by simp [State.Clean]

/-- The constants of pi differ from zero in the first word of `P`. -/
theorem zeroSubkeys_P_ne_piP : zeroSubkeys.P ≠ piP := by
  intro h
  have hword : zeroSubkeys.P[0] = piP[0] := by rw [h]
  exact absurd hword (by decide)

/-- The constants of pi differ from zero in the first word of `S[0]`. -/
theorem zeroSubkeys_S_ne_piS : zeroSubkeys.S ≠ piS := by
  intro h
  have hword : zeroSubkeys.S[0][0] = piS[0][0] := by rw [h]
  exact absurd hword (by decide)

/-! ## `ENCBLOCK` and `BCRYPT` without a key setup -/

/-- Under zero subkeys `ENCBLOCK` swaps `L` and `R` (rule R84). -/
theorem exec_encblock_of_zeroSubkeys {s : State} (h : s.subkeys = zeroSubkeys) :
    exec .encblock s = .next { s with L := s.R, R := s.L, ERR := 0 } :=
  exec_encblock_of_encryptBlock (by rw [h, encryptBlock_zeroSubkeys, Prod.swap_prod_mk])

/-- With `COST` below 4 `BCRYPT` fails the first of its checks (rule R114). -/
theorem exec_bcrypt_of_cost_lt {s : State} (h : s.COST.toNat < 4) :
    exec .bcrypt s = .next (s.raise .blowfish .invalidCost) := by
  have hcause : causeOf .bcrypt s = some .invalidCost := by
    rw [causeOf, State.setupCause_eq, if_pos (.inl h)]
  rw [exec_eq_complete, hcause, complete_some, unitOf]

/-- An error return from a clean state writes `ERR` alone. -/
theorem raise_blowfish_of_clean {s : State} (h : s.Clean) (e : ErrorKind) :
    s.raise .blowfish e = { s with ERR := e.code } := by
  rw [State.raise_blowfish, scrub_eq_self_of_clean h, State.setErr]

/-- Settles O16: the step leaves `State.hostReset`, whose elements are zero one by one; the two commands meet zero
subkeys and cost 0 there. -/
theorem resetZeroesEverything : Obligations.ResetZeroesEverything := by
  intro s rest hin
  refine ⟨(s.setInbox rest).hostReset, step_of_reset hin, ?_⟩
  generalize s.setInbox rest = u
  refine ⟨?P, ?S, ?KEY, u.hostReset_KEYLEN, ?SALT, u.hostReset_SALTLEN, u.hostReset_COST, u.hostReset_L,
    u.hostReset_R, ?DIGEST, ?BBUF, u.hostReset_BLEN, ?CBUF, u.hostReset_CLEN, u.hostReset_ERR, rfl,
    zeroSubkeys_P_ne_piP, zeroSubkeys_S_ne_piS, fun l r => ?encblock, ?bcrypt⟩
  case P | S | KEY | SALT | DIGEST | BBUF | CBUF => simp
  case encblock => exact exec_encblock_of_zeroSubkeys rfl
  case bcrypt =>
    have hcost : u.hostReset.COST.toNat < 4 := by simp
    rw [exec_bcrypt_of_cost_lt hcost, raise_blowfish_of_clean (hostReset_clean u), ErrorKind.code]

end Sys2Proof.Machine
end

section
/-!
PROOFS. A command and its word (30_encoding.md rules R45 to R49). The decoder accepts the fields `op` and `arg`
of a word exactly with the well-formed command that has them, so decoding and encoding are inverse on legal words;
the step at a write to `CMD` then runs that command.
-/

namespace Sys2Proof

/-! ## The fields of a command's word -/

theorem rsvField_encode (i : Instr) : rsvField (encode i) = 0 := Laws.rsvField_join _ _

theorem opField_encode (i : Instr) : opField (encode i) = i.op := Laws.opField_join _ _

theorem argField_encode (i : Instr) : argField (encode i) = i.arg := by
  have hlow : argField (0#16 ++ i.arg ++ i.op : BitVec (16 + 8 + 8)) = (0#16 ++ i.arg).extractLsb' 0 8 :=
    BitVec.extractLsb'_append_eq_of_le (by decide)
  exact hlow.trans (BitVec.extractLsb'_append_eq_right ..)

/-- A word is a command's exactly when its three fields are. -/
theorem encode_eq_iff_fields (i : Instr) (c : Word) :
    encode i = c ↔ rsvField c = 0 ∧ i.op = opField c ∧ i.arg = argField c := by
  rw [word_eq_iff_fields, rsvField_encode, opField_encode, argField_encode, eq_comm (a := 0),
    and_comm (a := i.arg = _)]

/-! ## The count of format N -/

/-- Rule R48: a count below 64 is put into `arg` whole and leaves `arg[7:6]` zero. -/
theorem countArg_of_lt : ∀ n < 64,
    BitVec.ofNat 8 n &&& 0xC0 = 0 ∧ ((BitVec.ofNat 8 n).extractLsb' 0 6).toNat = n := by decide

/-- Rule R48: where `arg[7:6]` is zero, `arg` is its count. -/
theorem ofNat_countArg : ∀ arg : BitVec 8, arg &&& 0xC0 = 0 → BitVec.ofNat 8 (arg.extractLsb' 0 6).toNat = arg := by
  decide

theorem formatN_arg {n : Nat} (hn : n < 64) (mk : Nat → Instr) : formatN (BitVec.ofNat 8 n) mk = .ok (mk n) := by
  obtain ⟨hzero, hcount⟩ := countArg_of_lt n hn
  rw [formatN_eq_ok_iff, hcount]
  exact ⟨hzero, rfl⟩

/-! ## Decoding and encoding are inverse -/

/-- The fields of a well-formed command select its own row. -/
theorem decodeFields_op_arg {i : Instr} (hwf : i.WellFormed) : decodeFields i.op i.arg = .ok i := by
  cases i with
  | b64enc n => exact formatN_arg (of_decide_eq_true hwf) .b64enc
  | b64dec n => exact formatN_arg (of_decide_eq_true hwf) .b64dec
  | _ => rfl

/-- The row that two fields select, if any, is a command with these fields. -/
theorem fields_of_decodeFields {op arg : BitVec 8} {i : Instr} (h : decodeFields op arg = .ok i) :
    i.WellFormed ∧ i.op = op ∧ i.arg = arg := by
  obtain ⟨r, hr, ⟨rfl, harg⟩, rfl⟩ := (decodeFields_eq_ok_iff op arg i).mp h
  have split_rows : r ∈ opcodeRows.take 9 ++ opcodeRows.drop 9 := by rwa [List.take_append_drop]
  rcases List.mem_append.mp split_rows with hfixed | hcount
  · simp only [opcodeRows, List.take, List.mem_cons, List.not_mem_nil, or_false] at hfixed
    rcases hfixed with rfl | rfl | rfl | rfl | rfl | rfl | rfl | rfl | rfl <;>
      exact ⟨rfl, rfl, harg.symm.trans (and_fullArgMask arg)⟩
  · simp only [opcodeRows, List.drop, List.mem_cons, List.not_mem_nil, or_false] at hcount
    have hwf : (arg.extractLsb' 0 6).toNat < 64 := (arg.extractLsb' 0 6).isLt
    rcases hcount with rfl | rfl <;> exact ⟨decide_eq_true hwf, rfl, ofNat_countArg arg harg⟩

theorem decode_eq_ok_iff_fields (c : Word) (i : Instr) :
    decode c = .ok i ↔ rsvField c = 0 ∧ decodeFields (opField c) (argField c) = .ok i := by
  unfold decode
  split_ifs <;> simp_all

/-- Rule R49: a word decodes to a command exactly when it is the word of that well-formed command. -/
theorem decode_eq_ok_iff_encode (c : Word) (i : Instr) : decode c = .ok i ↔ i.WellFormed ∧ encode i = c := by
  rw [decode_eq_ok_iff_fields, encode_eq_iff_fields]
  constructor
  · rintro ⟨hrsv, hfields⟩
    obtain ⟨hwf, hop, harg⟩ := fields_of_decodeFields hfields
    exact ⟨hwf, hrsv, hop, harg⟩
  · rintro ⟨hwf, hrsv, hop, harg⟩
    rw [← hop, ← harg]
    exact ⟨hrsv, decodeFields_op_arg hwf⟩

/-- Settles O1: one direction of `decode_eq_ok_iff_encode`, at the command's own word. -/
theorem decodeOfEncode : Obligations.DecodeOfEncode :=
  fun i hwf => (decode_eq_ok_iff_encode (encode i) i).mpr ⟨hwf, rfl⟩

/-- Settles O2: the other direction of `decode_eq_ok_iff_encode`. -/
theorem encodeOfDecode : Obligations.EncodeOfDecode :=
  fun c i hdecode => (decode_eq_ok_iff_encode c i).mp hdecode

/-- Settles O6: each legal word is its command's, and each illegal one is evaluated. -/
theorem sampleWordsDecode : Obligations.SampleWordsDecode :=
  ⟨decodeOfEncode .init rfl, decodeOfEncode .expandstateK rfl, decodeOfEncode .expandstateS rfl,
    decodeOfEncode .bcrypt rfl, decodeOfEncode (.b64enc 23) rfl, decodeOfEncode (.b64dec 63) rfl, rfl, rfl, rfl⟩

end Sys2Proof

namespace Sys2Proof.Machine

/-- The step at the command word that the host has just issued executes it, and the event is gone. -/
theorem step_issueCommand (s : State) (c : Word) : step (s.issueCommand c) = execWord c s :=
  step_of_commandWord rfl

/-- Settles O7: both clauses are the step at a command word, whose `Exec` runs the decoded command. -/
theorem stepRunsDecodedCommand : Obligations.StepRunsDecodedCommand := by
  intro s c i hdecode
  constructor
  · intro rest hin
    exact (step_of_commandWord hin).trans (execWord_of_ok hdecode _)
  · have hword : BitVec.ofNat 32 (c.toNat % 2 ^ 32) = c := by
      rw [Nat.mod_eq_of_lt c.isLt, BitVec.ofNat_toNat, BitVec.setWidth_eq]
    rw [State.withFetchWord, hword, step_issueCommand, execWord_of_ok hdecode]

end Sys2Proof.Machine
end

section
/-!
PROOFS. The host port without commands (20_memory.md sections 1 to 4). A read reaches no part of `P`, `S`, `KEY`
and changes nothing of BFC; a write elsewhere than at `CMD` is a store (`storeAt`), which is idempotent. So no
event but a command carries anything from `P`, `S`, `KEY` to the rest of the state.
-/

namespace Sys2Proof.Machine

/-! ## The register map -/

/-- Every register lies at an aligned offset inside the window (20_memory.md rule R30). -/
theorem HostReg.offset_aligned_inside (r : HostReg) : r.offset % 4 = 0 ∧ r.offset < 0x1000 := by
  have every_register : ∀ q ∈ hostRegs, q.offset % 4 = 0 ∧ q.offset < 0x1000 := by decide
  exact every_register r (mem_hostRegs r)

theorem HostReg.offset_injective {r q : HostReg} (h : r.offset = q.offset) : r = q := by
  have hr : regAt q.offset = some r := h ▸ regAt_offset r
  exact Option.some.inj (hr.symm.trans (regAt_offset q))

/-- Settles O8: the map finds each register at its own offset, so the offset determines the register. -/
theorem registerMapIsOneToOne : Obligations.RegisterMapIsOneToOne :=
  ⟨regAt_eq_some_iff, HostReg.offset_aligned_inside, fun _ _ => HostReg.offset_injective⟩

/-! ## Reads and stores of registers -/

/-- A read reaches nothing of `P`, `S`, `KEY` (10_state.md rule R26) nor of the host's side of the port. -/
theorem readReg_of_hidden (r : HostReg) (s : State) (P : Vector Word 18) (S : Vector (Vector Word 256) 4)
    (K : Vector Byte 72) (inbox : List HostEvent) (replies : List Word) :
    readReg r { s with P := P, S := S, KEY := K, inbox := inbox, replies := replies } = readReg r s := by
  cases r <;> rfl

/-- A register's word is as before a store into another register. -/
theorem readReg_writeReg_of_ne {r q : HostReg} (hne : r ≠ q) (v : Word) (s : State) :
    readReg q (writeReg r v s) = readReg q s := by
  cases r with
  | cmd | err | blen | clen | digw _ => rfl
  | keyw i => cases q <;> rfl
  | cost | keylen | saltlen | left | right => cases q <;> simp [readReg, writeReg] at hne ⊢
  | saltw i =>
    cases q with
    | saltw k =>
      exact bufWord_setBufWord_of_ne _ _ _ _ (by omega) (by omega)
        fun h => hne (congrArg HostReg.saltw (Fin.ext h.symm))
    | _ => rfl
  | bbufw i =>
    cases q with
    | bbufw k =>
      exact bufWord_setBufWord_of_ne _ _ _ _ (by omega) (by omega)
        fun h => hne (congrArg HostReg.bbufw (Fin.ext h.symm))
    | _ => rfl
  | cbufw i =>
    cases q with
    | cbufw k =>
      exact bufWord_setBufWord_of_ne _ _ _ _ (by omega) (by omega)
        fun h => hne (congrArg HostReg.cbufw (Fin.ext h.symm))
    | _ => rfl

/-- Settles O12: the buffers by `bufWord_setBufWord`, the other registers by their one field. -/
theorem writtenRegisterReadsBack : Obligations.WrittenRegisterReadsBack := by
  intro s v r q
  refine ⟨?readBack, ?kept, fun hne => readReg_writeReg_of_ne hne v s⟩
  case readBack =>
    rintro (hscalar | ⟨i, rfl⟩ | ⟨i, rfl⟩ | ⟨i, rfl⟩)
    · simp only [List.mem_cons, List.not_mem_nil, or_false] at hscalar
      rcases hscalar with rfl | rfl | rfl | rfl | rfl <;> rfl
    all_goals exact bufWord_setBufWord _ _ _ (by omega) (by omega)
  case kept =>
    rintro (hscalar | ⟨i, rfl⟩ | ⟨i, rfl⟩)
    · simp only [List.mem_cons, List.not_mem_nil, or_false] at hscalar
      rcases hscalar with rfl | rfl | rfl | rfl <;> rfl
    all_goals rfl

/-- A buffer word written twice is the word written once. -/
theorem setBufWord_setBufWord {n : Nat} (X : Vector Byte n) (i : Nat) (v : Word) (h : 4 * i + 3 < n) :
    setBufWord (setBufWord X i v h) i v h = setBufWord X i v h := by
  ext j hj
  simp only [setBufWord_getElem]
  split_ifs <;> rfl

/-- A store made twice is the store made once (20_memory.md section 4). -/
theorem writeReg_writeReg (r : HostReg) (v : Word) (s : State) : writeReg r v (writeReg r v s) = writeReg r v s := by
  cases r with
  | saltw i | keyw i | bbufw i | cbufw i =>
    simp only [writeReg, State.setSalt_SALT, State.setKey_KEY, State.setBbuf_BBUF, State.setCbuf_CBUF,
      setBufWord_setBufWord]
    rfl
  | _ => rfl

/-! ## Stores by offset -/

/-- What a write does elsewhere than at `CMD` (20_memory.md rules R32 and R36): the store into the register of
that offset, and nothing at an unassigned one; `hostWrite_eq_storeAt` ties it to `HostWrite`. -/
def storeAt (off : Nat) (v : Word) (s : State) : State :=
  match regAt off with
  | some r => writeReg r v s
  | none => s

theorem hostWrite_eq_storeAt {off : Nat} (hne : off ≠ 0) (v : Word) (s : State) :
    hostWrite off v s = .next (storeAt off v s) :=
  hostWrite_of_ne_cmd hne v s

/-- A statement about `storeAt` holds if it holds of no write and of every register's store. -/
theorem storeAt_induct {motive : State → Prop} (off : Nat) (v : Word) (s : State) (unassigned : motive s)
    (stored : ∀ r, motive (writeReg r v s)) : motive (storeAt off v s) := by
  unfold storeAt
  cases regAt off with
  | none => exact unassigned
  | some r => exact stored r

theorem storeAt_storeAt (off : Nat) (v : Word) (s : State) : storeAt off v (storeAt off v s) = storeAt off v s := by
  unfold storeAt
  cases regAt off with
  | none => rfl
  | some r => exact writeReg_writeReg r v s

/-- A store does not touch the host's events, so it is the same before and after they change. -/
theorem storeAt_setInbox (off : Nat) (v : Word) (s : State) (es : List HostEvent) :
    storeAt off v (s.setInbox es) = (storeAt off v s).setInbox es := by
  unfold storeAt
  cases regAt off with
  | none => rfl
  | some r => cases r <;> rfl

theorem storeAt_inbox (off : Nat) (v : Word) (s : State) : (storeAt off v s).inbox = s.inbox :=
  (congrArg State.inbox (storeAt_setInbox off v s s.inbox) :)

/-- The step at a store. -/
theorem step_of_store {s : State} {rest : List HostEvent} {off : Nat} {v : Word}
    (hin : s.inbox = .write off 32 v :: rest) (halign : off % 4 = 0) (hwin : off < 0x1000) (hne : off ≠ 0) :
    step s = .next (storeAt off v (s.setInbox rest)) :=
  (step_of_write hin halign hwin).trans (hostWrite_eq_storeAt hne v _)

/-- A read returns the same word whatever the host's events and the words returned before. -/
theorem hostRead_of_hidden (off : Nat) (s : State) (P : Vector Word 18) (S : Vector (Vector Word 256) 4)
    (K : Vector Byte 72) (inbox : List HostEvent) (replies : List Word) :
    hostRead off { s with P := P, S := S, KEY := K, inbox := inbox, replies := replies } = hostRead off s := by
  unfold hostRead
  cases regAt off with
  | none => rfl
  | some r => exact readReg_of_hidden r s P S K inbox replies

theorem hostRead_setInbox (off : Nat) (s : State) (es : List HostEvent) :
    hostRead off (s.setInbox es) = hostRead off s :=
  hostRead_of_hidden off s s.P s.S s.KEY es s.replies

theorem hostRead_reply (off : Nat) (s : State) (w : Word) : hostRead off (s.reply w) = hostRead off s :=
  hostRead_of_hidden off s s.P s.S s.KEY s.inbox (s.replies ++ [w])

/-! ## Runs of the machine -/

/-- A run whose first step has a next state goes on from there. -/
theorem run_succ_of_next {s t : State} (h : step s = .next t) (n : Nat) :
    Host.Core.run Sys2Proof.core (n + 1) s = Host.Core.run Sys2Proof.core n t := by
  have hcore : Sys2Proof.core.step s = .next t := h
  simp only [Host.Core.run, hcore]

theorem run_succ_of_refused {s : State} {p : Refusal} (h : step s = .refused p) (n : Nat) :
    Host.Core.run Sys2Proof.core (n + 1) s = .refused p := by
  have hcore : Sys2Proof.core.step s = .refused p := h
  simp only [Host.Core.run, hcore]

theorem run_one_of_next {s t : State} (h : step s = .next t) : Host.Core.run Sys2Proof.core 1 s = .next t :=
  run_succ_of_next h 0

theorem run_two_of_next {s t u : State} (hst : step s = .next t) (htu : step t = .next u) :
    Host.Core.run Sys2Proof.core 2 s = .next u :=
  (run_succ_of_next hst 1).trans (run_one_of_next htu)

/-! ## Repeated accesses -/

/-- The step at the word of `ENCBLOCK` under zero subkeys swaps `L` and `R`, so a second such step swaps them back. -/
theorem step_encblock_of_zeroSubkeys {s : State} {rest : List HostEvent} (hin : s.inbox = .write 0x000 32 4 :: rest)
    (hzero : s.subkeys = zeroSubkeys) :
    step s = .next { s with L := s.R, R := s.L, ERR := 0, inbox := rest } := by
  have hexec : exec .encblock (s.setInbox rest) = _ := exec_encblock_of_zeroSubkeys hzero
  rw [step_of_commandWord hin, execWord_of_ok rfl, hexec]
  rfl

/-- Settles O13: a read leaves every register as it was, a store is idempotent, and `ENCBLOCK` under zero subkeys
swaps two unequal words, then swaps them back. -/
theorem accessSideEffects : Obligations.AccessSideEffects := by
  refine ⟨fun s rest off halign hwin hin => ?reads, fun s rest off v halign hwin hne => ?stores, ?command⟩
  case reads =>
    refine ⟨hostRead off s, ?_, ?_⟩
    · rw [run_two_of_next (step_of_read hin halign hwin) (step_of_read rfl halign hwin)]
      simp only [hostRead_setInbox, hostRead_reply]
      apply congrArg
      apply State.ext <;> simp
    · rintro rfl
      rfl
  case stores =>
    rw [run_two_of_next (step_of_store rfl halign hwin hne)
        (step_of_store (storeAt_inbox off v _) halign hwin hne),
      run_one_of_next (step_of_store rfl halign hwin hne), ← storeAt_setInbox, storeAt_storeAt]
    rfl
  case command =>
    refine ⟨State.reset.setL 1, 4, ?_⟩
    rw [run_one_of_next (step_encblock_of_zeroSubkeys rfl rfl),
      run_two_of_next (step_encblock_of_zeroSubkeys rfl rfl) (step_encblock_of_zeroSubkeys rfl rfl)]
    intro hsame
    exact absurd (congrArg State.L hsame) (by decide)

/-- Settles O15: with nothing issued the step's first branch answers the state itself. -/
theorem idleStepKeepsState : Obligations.IdleStepKeepsState := by
  intro s hidle
  simp only [step, acceptNext, hidle]

/-! ## States that differ in `P`, `S`, `KEY` -/

section SameButStore
variable {s t : State}

/-- `SameButStore` as the writing of other values into `P`, `S`, `KEY`. -/
theorem sameButStore_iff :
    SameButStore s t ↔ ∃ P S K, s = { t with P := P, S := S, KEY := K } := by
  constructor
  · intro h
    exact ⟨_, _, _, h⟩
  · rintro ⟨P, S, K, rfl⟩
    rfl

theorem SameButStore.setInbox (h : SameButStore s t) (es : List HostEvent) :
    SameButStore (s.setInbox es) (t.setInbox es) := by
  obtain ⟨P, S, K, rfl⟩ := sameButStore_iff.mp h
  rfl

theorem SameButStore.reply (h : SameButStore s t) (w : Word) : SameButStore (s.reply w) (t.reply w) := by
  obtain ⟨P, S, K, rfl⟩ := sameButStore_iff.mp h
  rfl

theorem SameButStore.hostReset (h : SameButStore s t) : SameButStore s.hostReset t.hostReset := by
  obtain ⟨P, S, K, rfl⟩ := sameButStore_iff.mp h
  rfl

theorem SameButStore.storeAt (h : SameButStore s t) (off : Nat) (v : Word) :
    SameButStore (storeAt off v s) (storeAt off v t) := by
  obtain ⟨P, S, K, rfl⟩ := sameButStore_iff.mp h
  unfold Machine.storeAt
  cases regAt off with
  | none => rfl
  | some r => cases r <;> rfl

theorem SameButStore.hostRead_eq (h : SameButStore s t) (off : Nat) : hostRead off s = hostRead off t := by
  obtain ⟨P, S, K, rfl⟩ := sameButStore_iff.mp h
  exact hostRead_of_hidden off t P S K t.inbox t.replies

theorem SameButStore.inbox_eq (h : SameButStore s t) : s.inbox = t.inbox := by
  obtain ⟨P, S, K, rfl⟩ := sameButStore_iff.mp h
  rfl

theorem SameButStore.replies_eq (h : SameButStore s t) : s.replies = t.replies := by
  obtain ⟨P, S, K, rfl⟩ := sameButStore_iff.mp h
  rfl

end SameButStore

/-- How two steps can answer alike: both with next states in a relation, or both refused for one reason. -/
inductive AnswerAlike (R : State → State → Prop) :
    Host.Outcome State Fault Refusal → Host.Outcome State Fault Refusal → Prop
  | next {s' t' : State} (h : R s' t') : AnswerAlike R (.next s') (.next t')
  | refused (p : Refusal) : AnswerAlike R (.refused p) (.refused p)

/-- What every pair of related states steps to is related, so it is after any number of steps. -/
theorem run_alike {R : State → State → Prop} (hstep : ∀ s t, R s t → AnswerAlike R (step s) (step t)) (n : Nat)
    {s t : State} (h : R s t) :
    AnswerAlike R (Host.Core.run Sys2Proof.core n s) (Host.Core.run Sys2Proof.core n t) := by
  induction n generalizing s t with
  | zero => exact .next h
  | succ n ih =>
    have halike := hstep s t h
    generalize hs : step s = a, ht : step t = b at halike
    cases halike with
    | next h' =>
      rw [run_succ_of_next hs, run_succ_of_next ht]
      exact ih h'
    | refused p =>
      rw [run_succ_of_refused hs, run_succ_of_refused ht]
      exact .refused p

/-- Two states that differ in `P`, `S`, `KEY` at most, with no command among the events to come. -/
abbrev SameWithoutCommands (s t : State) : Prop := SameButStore s t ∧ ∀ e ∈ s.inbox, ¬ e.IsCommand

/-- Event by event: a reset clears both states, a read returns one word to both, a store is the same in both, and
an access without a meaning is refused in both. -/
theorem step_alike (s t : State) (h : SameWithoutCommands s t) :
    AnswerAlike SameWithoutCommands (step s) (step t) := by
  obtain ⟨hsame, hsafe⟩ := h
  cases hin : s.inbox with
  | nil =>
    rw [idleStepKeepsState s hin, idleStepKeepsState t (hsame.inbox_eq ▸ hin)]
    exact .next ⟨hsame, hsafe⟩
  | cons e rest =>
    have hint : t.inbox = e :: rest := hsame.inbox_eq ▸ hin
    have hrest : SameButStore (s.setInbox rest) (t.setInbox rest) := hsame.setInbox rest
    rw [hin, List.forall_mem_cons] at hsafe
    obtain ⟨he, hsafe⟩ := hsafe
    cases e with
    | reset =>
      rw [step_of_reset hin, step_of_reset hint]
      exact .next ⟨hrest.hostReset, hsafe⟩
    | read off width =>
      cases hp : accessProblem off width with
      | some p =>
        rw [step_of_read_refused hin hp, step_of_read_refused hint hp]
        exact .refused p
      | none =>
        obtain ⟨hwin, halign, rfl⟩ := (accessProblem_eq_none off width).mp hp
        rw [step_of_read hin halign hwin, step_of_read hint halign hwin, hrest.hostRead_eq off]
        exact .next ⟨hrest.reply _, hsafe⟩
    | write off width v =>
      cases hp : accessProblem off width with
      | some p =>
        rw [step_of_write_refused hin hp, step_of_write_refused hint hp]
        exact .refused p
      | none =>
        obtain ⟨hwin, halign, rfl⟩ := (accessProblem_eq_none off width).mp hp
        rw [step_of_store hin halign hwin he, step_of_store hint halign hwin he]
        exact .next ⟨hrest.storeAt off v, (storeAt_inbox off v _).symm ▸ hsafe⟩

/-- Settles O14: `step_alike` over any number of steps; the words returned are among what stays the same. -/
theorem hostWithoutCommandsLearnsNoKey : Obligations.HostWithoutCommandsLearnsNoKey := by
  intro n s t hsame hsafe
  have halike : AnswerAlike SameWithoutCommands (Host.Core.run Sys2Proof.core n s)
      (Host.Core.run Sys2Proof.core n t) :=
    run_alike step_alike n ⟨hsame, hsafe⟩
  generalize Host.Core.run Sys2Proof.core n s = a, Host.Core.run Sys2Proof.core n t = b at halike ⊢
  cases halike with
  | next h => exact ⟨h.1.replies_eq, h.1⟩
  | refused p => rfl

end Sys2Proof.Machine
end

section
/-!
PROOFS. What every step keeps (10_state.md rule R29), what every command leaves alone, and which ends leave a clean
state (70_reset_and_hazards.md rule R139). Each is read off `step_cases` or `exec_cases`.
-/

namespace Sys2Proof.Machine

/-! ## The bounds of `BLEN`, `CLEN` and `ERR` -/

/-- The invariant of rule R29 reads `BLEN`, `CLEN` and `ERR` only. -/
theorem State.Inv.congr {s t : State} (h : s.Inv) (hblen : t.BLEN = s.BLEN) (hclen : t.CLEN = s.CLEN)
    (herr : t.ERR = s.ERR) : t.Inv := by
  rwa [State.Inv, hblen, hclen, herr]

/-- A value of `ERR` within rule R29. -/
abbrev ErrInRange (e : BitVec 4) : Prop := e.toNat ≤ 8 ∧ e.toNat ≠ 5 ∧ e.toNat ≠ 6

/-- Rules R111 and R112 of 60_exceptions.md: no command lists a code reserved for host software. -/
theorem errInRange_of_mem_errorsOf {i : Instr} {e : ErrorKind} (h : e ∈ errorsOf i) : ErrInRange e.code := by
  cases e with
  | malformedRecord | unsupportedVersion => cases i <;> simp [errorsOf] at h
  | _ => decide

theorem State.raise_BLEN (s : State) (u : FunctionalUnit) (e : ErrorKind) : (s.raise u e).BLEN = s.BLEN := by
  cases u <;> simp

theorem State.raise_CLEN (s : State) (u : FunctionalUnit) (e : ErrorKind) : (s.raise u e).CLEN = s.CLEN := by
  cases u <;> simp

/-- An encode that passes its check leaves at most 32 characters, a decode at most 24 bytes. -/
theorem effectOf_lengths {i : Instr} {s : State} (hpass : causeOf i s = none) (h : s.Inv) :
    (effectOf i s).BLEN.toNat ≤ 24 ∧ (effectOf i s).CLEN.toNat ≤ 32 := by
  obtain ⟨hblen, hclen, -⟩ := h
  cases i with
  | b64enc n =>
    rw [causeOf, encCause_eq] at hpass
    have hn : n ≤ 24 := by by_contra hn; simp [Nat.lt_of_not_le hn] at hpass
    have hlen : encLen n ≤ 32 := by simp only [encLen]; omega
    simp only [effectOf, State.setText_BLEN, State.setText_CLEN, BitVec.toNat_ofNat]
    exact ⟨hblen, (Nat.mod_le _ _).trans hlen⟩
  | b64dec n =>
    rw [causeOf, decCause_eq] at hpass
    have hn : n ≤ 32 := by by_contra hn; simp [Nat.lt_of_not_le hn] at hpass
    have hlen : decLen n ≤ 24 := by simp only [decLen]; omega
    simp only [effectOf, State.setBinary_BLEN, State.setBinary_CLEN, BitVec.toNat_ofNat]
    exact ⟨(Nat.mod_le _ _).trans hlen, hclen⟩
  | _ => simpa [effectOf] using ⟨hblen, hclen⟩

theorem exec_keeps_inv {i : Instr} {s t : State} (hexec : exec i s = .next t) (h : s.Inv) : t.Inv := by
  rcases exec_cases hexec with ⟨e, hcause, rfl⟩ | ⟨hpass, rfl⟩
  · obtain ⟨hblen, hclen, -⟩ := h
    rw [State.Inv, State.raise_BLEN, State.raise_CLEN, State.raise_ERR]
    exact ⟨hblen, hclen, errInRange_of_mem_errorsOf (causeOf_mem_errorsOf hcause)⟩
  · obtain ⟨hblen, hclen⟩ := effectOf_lengths hpass h
    rw [State.Inv, State.succeed_BLEN, State.succeed_CLEN, State.succeed_ERR]
    exact ⟨hblen, hclen, by decide⟩

/-- No store reaches `BLEN`, `CLEN` or `ERR`: they are read-only to the host (20_memory.md rule R36). -/
theorem writeReg_keeps_inv (r : HostReg) (v : Word) {s : State} (h : s.Inv) : (writeReg r v s).Inv := by
  cases r <;> exact h.congr rfl rfl rfl

/-- Settles O17: the three registers are 0 after reset. -/
theorem resetMeetsStatusBounds : Obligations.ResetMeetsStatusBounds := by
  simp [Obligations.ResetMeetsStatusBounds, State.Inv]

/-- Settles O18: by what a step can have done (`step_cases`), of which only a reset, a command and an illegal word
write `BLEN`, `CLEN` or `ERR`. -/
theorem stepKeepsStatusBounds : Obligations.StepKeepsStatusBounds := by
  intro s t h hstep
  have htaken (rest : List HostEvent) : (s.setInbox rest).Inv := h.congr rfl rfl rfl
  rcases step_cases hstep with ⟨-, rfl⟩ | ⟨rest, -, rfl⟩ | ⟨rest, off, -, rfl⟩ | ⟨rest, c, -, hword⟩ |
    ⟨rest, off, v, -, -, rfl⟩
  case inl => exact h
  case inr.inl => exact resetMeetsStatusBounds.congr rfl rfl rfl
  case inr.inr.inl => exact (htaken rest).congr rfl rfl rfl
  case inr.inr.inr.inl =>
    rcases hword with ⟨i, -, hexec⟩ | ⟨-, rfl⟩
    · exact exec_keeps_inv hexec (htaken rest)
    · obtain ⟨hblen, hclen, -⟩ := htaken rest
      exact ⟨hblen, hclen, by simp⟩
  case inr.inr.inr.inr =>
    exact storeAt_induct (motive := State.Inv) off v _ (htaken rest) fun r => writeReg_keeps_inv r v (htaken rest)

/-! ## Every event completes -/

/-- A command leaves the host's side of the port alone. -/
theorem samePort_of_exec {i : Instr} {s t : State} (hexec : exec i s = .next t) : SamePort s t := by
  apply exec_frame hexec
  · intro e
    cases unitOf i <;> simp [SamePort]
  · cases i <;> simp [effectOf, SamePort]

/-- Settles O46: `exists_exec_eq_next` for the commands; for an event, the step at a reset, a read, a store and a
command word in turn. -/
theorem everyEventHasNextState : Obligations.EveryEventHasNextState := by
  refine ⟨fun i s => ?command, fun s e rest hin hmeaning => ?event⟩
  case command =>
    obtain ⟨t, hexec⟩ := exists_exec_eq_next i s
    exact ⟨t, hexec, samePort_of_exec hexec⟩
  case event =>
    cases e with
    | reset => exact ⟨_, step_of_reset hin, State.hostReset_inbox _⟩
    | read off width =>
      obtain ⟨halign, hwin, rfl⟩ := hmeaning
      exact ⟨_, step_of_read hin halign hwin, rfl⟩
    | write off width v =>
      obtain ⟨halign, hwin, rfl⟩ := hmeaning
      by_cases hcmd : off = 0
      · subst hcmd
        obtain ⟨t, ht⟩ := exists_execWord_eq_next v (s.setInbox rest)
        refine ⟨t, (step_of_commandWord hin).trans ht, ?_⟩
        rcases execWord_cases ht with ⟨i, -, hexec⟩ | ⟨-, rfl⟩
        · exact (samePort_of_exec hexec).1.symm
        · rfl
      · exact ⟨_, step_of_store hin halign hwin hcmd, storeAt_inbox off v _⟩

/-! ## Clean states -/

/-- Settles O45: both ends of `BCRYPT` scrub, the others are the scrub, the error return and the reset. -/
theorem cleanAfterHashScrubErrorReset : Obligations.CleanAfterHashScrubErrorReset := by
  refine ⟨fun s t hexec => ?bcrypt, fun s t hexec => ?scrub,
    fun i s t hunit hexec herr => ((failingCommandIsAllOrNothing.1 i s t hexec herr).1 hunit).1,
    fun s rest hin => ⟨_, step_of_reset hin, hostReset_clean _, rfl, rfl⟩⟩
  case bcrypt =>
    rcases exec_cases hexec with ⟨e, -, rfl⟩ | ⟨-, rfl⟩
    · exact s.scrub_clean
    · exact (s.setDigest (ecbMagic s.derivedSubkeys)).scrub_clean
  case scrub =>
    obtain rfl := Host.Outcome.next.inj ((exec_scrub s).symm.trans hexec)
    exact s.scrub_clean

end Sys2Proof.Machine
end

section
/-!
PROOFS. Block encryption and the digest under zero subkeys (42_blowfish_core.md rule R81, 43_eksblowfish.md rule
R98). Each round is undone by a round of the same words, so encryption is a composition of bijections; two rounds
with swaps are one double round without.
-/

namespace Sys2Proof.Machine

/-! ## Two rounds at a time -/

/-- Rounds `2i` and `2i + 1` with their swaps are the double round `i` without. -/
theorem feistelRound_feistelRound (k : Subkeys) (x : Block) (i : Fin 8) :
    feistelRound k (feistelRound k x ⟨2 * i.val, by omega⟩) ⟨2 * i.val + 1, by omega⟩ = unswappedRounds k x i := rfl

/-- The sixteen rounds in order, by pairs. -/
theorem finRange_sixteen :
    List.finRange 16 =
      (List.finRange 8).flatMap fun i => [⟨2 * i.val, by omega⟩, ⟨2 * i.val + 1, by omega⟩] := by decide

/-- Settles O20: the fold over sixteen rounds is the fold over eight pairs of rounds. -/
theorem encryptBlockWithoutSwaps : Obligations.EncryptBlockWithoutSwaps := by
  intro k x
  have rounds_by_pairs :
      (List.finRange 16).foldl (feistelRound k) x = (List.finRange 8).foldl (unswappedRounds k) x := by
    rw [finRange_sixteen, List.foldl_flatMap]
    simp only [List.foldl_cons, List.foldl_nil, feistelRound_feistelRound]
  simp only [encryptBlock, encryptUnswapped, rounds_by_pairs]

/-! ## Encryption is a bijection -/

/-- The round undone: the new right word is the old left word xored with `P[i]`, and F of it undoes the other xor. -/
def feistelUnround (k : Subkeys) (i : Fin 16) (y : Block) : Block :=
  (y.2 ^^^ k.P[i.val], y.1 ^^^ fFunction k.S y.2)

theorem feistelRound_bijective (k : Subkeys) (i : Fin 16) : Function.Bijective fun x => feistelRound k x i := by
  refine Function.bijective_iff_has_inverse.mpr ⟨feistelUnround k i, fun x => ?_, fun y => ?_⟩
  · simp [feistelRound, feistelUnround]
  · simp [feistelRound, feistelUnround]

theorem foldl_bijective {α β : Type} {f : β → α → β} (hf : ∀ a, Function.Bijective fun b => f b a) (l : List α) :
    Function.Bijective fun b => l.foldl f b := by
  induction l with
  | nil => exact Function.bijective_id
  | cons a l ih => exact ih.comp (hf a)

/-- The last action of the encryption: the sixteenth swap undone, and two words xored in. -/
def whiten (k : Subkeys) (y : Block) : Block := (y.2 ^^^ k.P[17], y.1 ^^^ k.P[16])

theorem encryptBlock_eq_whiten (k : Subkeys) (x : Block) :
    encryptBlock k x = whiten k ((List.finRange 16).foldl (feistelRound k) x) := rfl

theorem whiten_bijective (k : Subkeys) : Function.Bijective (whiten k) := by
  refine Function.bijective_iff_has_inverse.mpr
    ⟨fun z => (z.2 ^^^ k.P[16], z.1 ^^^ k.P[17]), fun y => ?_, fun z => ?_⟩
  · simp [whiten]
  · simp [whiten]

/-- Settles O21: sixteen rounds, each a bijection, then the bijection `whiten`. -/
theorem encryptBlockIsBijective : Obligations.EncryptBlockIsBijective :=
  fun k => (whiten_bijective k).comp (foldl_bijective (feistelRound_bijective k) (List.finRange 16))

/-! ## Worked values -/

/-- Settles O22: the rounds evaluated, and the block `encryptBlock_piSubkeys_zero`. -/
theorem encryptZeroBlockUnderPi : Obligations.EncryptZeroBlockUnderPi :=
  ⟨by decide +kernel, by decide +kernel, by decide +kernel, encryptBlock_piSubkeys_zero⟩

/-- A pass under zero subkeys swaps the words of each block. -/
theorem ecbPass_zeroSubkeys (ct : Vector Block 3) : ecbPass zeroSubkeys ct = ct.map Prod.swap :=
  Vector.map_congr_left fun x _ => encryptBlock_zeroSubkeys x

theorem ecbPass_zeroSubkeys_involutive : Function.Involutive (ecbPass zeroSubkeys) := by
  intro ct
  rw [ecbPass_zeroSubkeys, ecbPass_zeroSubkeys, Vector.map_map, Prod.swap_swap_eq, Vector.map_id]

/-- The text of the magic blocks is the magic text (rule R97). -/
theorem blockBytes_magicBlocks : blockBytes magicBlocks = magic := by decide +kernel

/-- Settles O30: the 64 passes under zero subkeys cancel in pairs. -/
theorem zeroSubkeysSwapHalves : Obligations.ZeroSubkeysSwapHalves := by
  refine ⟨fun l r => encryptBlock_zeroSubkeys (l, r), ?_⟩
  rw [ecbMagic, ecbPass_zeroSubkeys_involutive.iterate_even (by decide), id, blockBytes_magicBlocks]

end Sys2Proof.Machine
end

section
/-!
PROOFS. What the expansion reads (42_blowfish_core.md rules R82, R83, R89). It reads its key through the 72 bytes of
the key stream only, and a data stream of zeros xors nothing in.
-/

namespace Sys2Proof.Machine

/-! ## The key -/

section Keys
variable {m n : Nat} {key : Vector Byte m} {key' : Vector Byte n} {len len' : Nat}

/-- The first 72 bytes of two keys, each repeated cyclically, agree: what phase 1 reads. -/
abbrev SameStream (key : Vector Byte m) (len : Nat) (key' : Vector Byte n) (len' : Nat) : Prop :=
  ∀ j < 72, bufByte key (j % len) = bufByte key' (j % len')

theorem keyStreamWord_congr (h : SameStream key len key' len') {i : Nat} (hi : i < 18) :
    keyStreamWord key len i = keyStreamWord key' len' i := by
  simp only [keyStreamWord]
  rw [h (4 * i) (by omega), h (4 * i + 1) (by omega), h (4 * i + 2) (by omega), h (4 * i + 3) (by omega)]

theorem mixKey_congr (h : SameStream key len key' len') (P : Vector Word 18) :
    mixKey key len P = mixKey key' len' P := by
  ext i hi
  rw [mixKey_getElem, mixKey_getElem, keyStreamWord_congr h hi]

theorem expand_congr (h : SameStream key len key' len') (k : Subkeys) (data : Option (Vector Byte 16)) :
    expand k key len data = expand k key' len' data := by
  have hstart : expandStart k key len = expandStart k key' len' := by
    rw [expandStart, expandStart, mixKey_congr h]
  rw [expand_eq_chainAfter, expand_eq_chainAfter, hstart]

end Keys

/-- Keys that agree below the length have the same stream: no byte from the length on is in it. -/
theorem sameStream_of_agree {n : Nat} {key key' : Vector Byte n} {len : Nat} (hpos : 1 ≤ len) (hle : len ≤ n)
    (h : ∀ j : Fin n, j.val < len → key[j] = key'[j]) : SameStream key len key' len := by
  intro j _
  have hbelow : j % len < len := Nat.mod_lt j hpos
  have hinside : j % len < n := hbelow.trans_le hle
  rw [bufByte_of_lt _ _ hinside, bufByte_of_lt _ _ hinside]
  exact h ⟨j % len, hinside⟩ hbelow

/-- Settles O23: `mixKey_getElem`, and `mixKey_congr` at keys that agree below the length. -/
theorem keyStreamIsCyclicBytes : Obligations.KeyStreamIsCyclicBytes := by
  intro n key klen P hpos hle
  exact ⟨fun i => mixKey_getElem key klen P i i.isLt,
    fun key' hagree => mixKey_congr (sameStream_of_agree hpos hle hagree) P⟩

/-- Settles O26: equal cyclic extensions to 72 bytes are the same stream. -/
theorem expandReadsKeyCyclically : Obligations.ExpandReadsKeyCyclically :=
  fun _ _ _ _ _ _ k data _ _ _ _ hstream => expand_congr hstream k data

/-! ## Data of zeros -/

theorem bufByte_replicate_zero (n j : Nat) : bufByte (Vector.replicate n (0 : Byte)) j = 0 := by
  unfold bufByte
  by_cases hj : j < n <;> simp [hj]

/-- A data stream of zeros gives zero words. -/
theorem streamWord_replicate_zero (n len j : Nat) : (streamWord (Vector.replicate n (0 : Byte)) len j).1 = 0 := by
  simp only [streamWord, bufByte_replicate_zero]
  rfl

/-- The running values of phase 2 without the data position, which an expansion without data does not move. -/
def Chain.forgetPos (c : Chain) : Chain := { c with pos := 0 }

@[simp] theorem Chain.forgetPos_keys (c : Chain) : c.forgetPos.keys = c.keys := rfl

theorem expandStart_forgetPos {n : Nat} (k : Subkeys) (key : Vector Byte n) (klen : Nat) :
    (expandStart k key klen).forgetPos = expandStart k key klen := rfl

theorem mixData_zero_data (c : Chain) : (mixData (some (Vector.replicate 16 0)) c).1 = c.block := by
  simp only [mixData, streamWord_replicate_zero]
  exact Prod.ext BitVec.xor_zero BitVec.xor_zero

/-- With zero data an encryption of phase 2 is the one without data. -/
theorem expandSlot_zero_data (c : Chain) (slot : Slot) :
    expandSlot none c.forgetPos slot = (expandSlot (some (Vector.replicate 16 0)) c slot).forgetPos := by
  simp only [expandSlot, mixData_zero_data, mixData_none, Chain.forgetPos]

theorem chainAfter_zero_data (c : Chain) (t : Nat) :
    chainAfter none c.forgetPos t = (chainAfter (some (Vector.replicate 16 0)) c t).forgetPos :=
  List.foldl_hom Chain.forgetPos expandSlot_zero_data

/-- Rule R89 (a): a zero salt as data is no data. -/
theorem expand_zero_data {n : Nat} (k : Subkeys) (key : Vector Byte n) (klen : Nat) :
    expand k key klen (some (Vector.replicate 16 0)) = expand k key klen none := by
  rw [expand_eq_chainAfter, expand_eq_chainAfter, ← Chain.forgetPos_keys, ← chainAfter_zero_data,
    expandStart_forgetPos]

end Sys2Proof.Machine
end

section
/-!
PROOFS. The commands of the Blowfish unit by their checks (42_blowfish_core.md section 2, 43_eksblowfish.md sections
1 to 3). A command whose checks find no cause has its effect; a cause found is the error return. Then what the
results depend on: the key length cut at 72, the effective inputs of `BCRYPT`, a zero salt.
-/

namespace Sys2Proof.Machine

/-! ## The checks, value by value -/

section Checks
variable {s : State}

theorem keyCause_of_ne_zero (h : s.KEYLEN ≠ 0) : s.keyCause = none := by
  rw [State.keyCause_eq, if_neg (by bv_omega)]

theorem keyCause_of_zero (h : s.KEYLEN = 0) : s.keyCause = some .invalidKey := by
  rw [State.keyCause_eq, if_pos (by bv_omega)]

theorem saltCause_of_sixteen (h : s.SALTLEN = 16) : s.saltCause = none := by
  rw [State.saltCause_eq, if_neg (by bv_omega)]

theorem saltCause_of_ne_sixteen (h : s.SALTLEN ≠ 16) : s.saltCause = some .invalidSalt := by
  rw [State.saltCause_eq, if_pos (by bv_omega)]

theorem saltKeyCause_of_sixteen (h : s.SALTLEN = 16) : s.saltKeyCause = s.keyCause := by
  rw [State.saltKeyCause_eq, if_neg (by bv_omega)]

theorem saltKeyCause_of_ne_sixteen (h : s.SALTLEN ≠ 16) : s.saltKeyCause = some .invalidSalt := by
  rw [State.saltKeyCause_eq, if_pos (by bv_omega)]

theorem setupCause_of_cost_outside (h : s.COST.toNat < 4 ∨ 31 < s.COST.toNat) : s.setupCause = some .invalidCost := by
  rw [State.setupCause_eq, if_pos h]

theorem setupCause_of_cost_inside (hmin : 4 ≤ s.COST.toNat) (hmax : s.COST.toNat ≤ 31) :
    s.setupCause = s.saltKeyCause := by
  rw [State.setupCause_eq, if_neg (by omega)]

/-- `SetupReady` in the words of the registers. -/
theorem setupReady_of_words (hmin : 4 ≤ s.COST.toNat) (hmax : s.COST.toNat ≤ 31) (hsalt : s.SALTLEN = 16)
    (hkey : s.KEYLEN ≠ 0) : s.SetupReady :=
  ⟨hmin, hmax, by bv_omega, by bv_omega⟩

theorem State.SetupReady.saltlen (h : s.SetupReady) : s.SALTLEN = 16 := by
  obtain ⟨-, -, hsalt, -⟩ := h
  bv_omega

theorem State.SetupReady.keylen (h : s.SetupReady) : s.KEYLEN ≠ 0 := by
  obtain ⟨-, -, -, hkey⟩ := h
  bv_omega

end Checks

/-! ## The commands that pass their checks -/

section Passed
variable {s : State}

/-- A command whose checks find no cause has its effect and clears `ERR` (60_exceptions.md rule R117). -/
theorem exec_of_causeOf_none {i : Instr} (h : causeOf i s = none) : exec i s = .next (effectOf i s).succeed := by
  rw [exec_eq_complete, h, complete_none]

theorem exec_expandkey_of_valid (hsalt : s.SALTLEN = 16) (hkey : s.KEYLEN ≠ 0) :
    exec .expandkey s = .next (s.setSubkeys (expand s.subkeys s.KEY s.klen (some s.SALT))).succeed :=
  exec_of_causeOf_none ((saltKeyCause_of_sixteen hsalt).trans (keyCause_of_ne_zero hkey))

theorem exec_expandstateK_of_valid (hkey : s.KEYLEN ≠ 0) :
    exec .expandstateK s = .next (s.setSubkeys (expand s.subkeys s.KEY s.klen none)).succeed :=
  exec_of_causeOf_none (keyCause_of_ne_zero hkey)

theorem exec_expandstateS_of_valid (hsalt : s.SALTLEN = 16) :
    exec .expandstateS s = .next (s.setSubkeys (expand s.subkeys s.SALT 16 none)).succeed :=
  exec_of_causeOf_none (saltCause_of_sixteen hsalt)

theorem exec_ekssetup_of_ready (h : s.SetupReady) :
    exec .ekssetup s = .next (s.setSubkeys s.derivedSubkeys).succeed :=
  exec_of_causeOf_none (s.setupCause_eq_none.mpr h)

theorem exec_ecbmagic (s : State) : exec .ecbmagic s = .next (s.setDigest (ecbMagic s.subkeys)).succeed :=
  exec_of_causeOf_none rfl

theorem exec_bcrypt_of_ready (h : s.SetupReady) :
    exec .bcrypt s = .next (s.setDigest (ecbMagic s.derivedSubkeys)).scrub.succeed :=
  exec_of_causeOf_none (s.setupCause_eq_none.mpr h)

end Passed

/-! ## The errors -/

/-- The error return of a command of the Blowfish unit: the scrub and the error's code (60_exceptions.md rule
R113). -/
theorem exec_of_blowfish_cause {i : Instr} {s : State} {e : ErrorKind} (hunit : unitOf i = .blowfish)
    (h : causeOf i s = some e) : exec i s = .next { s.scrub with ERR := e.code } := by
  rw [exec_of_causeOf h, hunit, State.raise_blowfish, State.setErr]

/-- The errors of the composite commands in their order: cost, salt, key (43_eksblowfish.md rules R96 and R100). -/
theorem exec_setup_errors {i : Instr} (hi : i = .ekssetup ∨ i = .bcrypt) (s : State) :
    (s.COST.toNat < 4 ∨ 31 < s.COST.toNat → exec i s = .next { s.scrub with ERR := 1 }) ∧
      (4 ≤ s.COST.toNat → s.COST.toNat ≤ 31 → s.SALTLEN ≠ 16 → exec i s = .next { s.scrub with ERR := 2 }) ∧
      (4 ≤ s.COST.toNat → s.COST.toNat ≤ 31 → s.SALTLEN = 16 → s.KEYLEN = 0 →
        exec i s = .next { s.scrub with ERR := 3 }) := by
  have hunit : unitOf i = .blowfish := by rcases hi with rfl | rfl <;> rfl
  have hcause : causeOf i s = s.setupCause := by rcases hi with rfl | rfl <;> rfl
  refine ⟨fun hcost => ?cost, fun hmin hmax hsalt => ?salt, fun hmin hmax hsalt hkey => ?key⟩
  case cost => exact exec_of_blowfish_cause hunit (hcause.trans (setupCause_of_cost_outside hcost))
  case salt =>
    apply exec_of_blowfish_cause hunit (e := .invalidSalt)
    rw [hcause, setupCause_of_cost_inside hmin hmax, saltKeyCause_of_ne_sixteen hsalt]
  case key =>
    apply exec_of_blowfish_cause hunit (e := .invalidKey)
    rw [hcause, setupCause_of_cost_inside hmin hmax, saltKeyCause_of_sixteen hsalt, keyCause_of_zero hkey]

/-! ## The results of the commands -/

/-- Settles O33: the salt check, then the key check, then the effect. -/
theorem expandkeyResult : Obligations.ExpandkeyResult := by
  refine ⟨by decide, fun s => ⟨?effect, fun hsalt => ?salt, fun hsalt hkey => ?key⟩⟩
  case effect =>
    rintro hsalt hkey k rfl
    exact (exec_expandkey_of_valid hsalt hkey).trans (congrArg _ (setSubkeys_succeed s _))
  case salt =>
    exact exec_of_blowfish_cause (i := .expandkey) (e := .invalidSalt) rfl (saltKeyCause_of_ne_sixteen hsalt)
  case key =>
    exact exec_of_blowfish_cause (i := .expandkey) (e := .invalidKey) rfl
      ((saltKeyCause_of_sixteen hsalt).trans (keyCause_of_zero hkey))

/-- Settles O34: the key check decides between the effect and the error return. -/
theorem expandstateKeyResult : Obligations.ExpandstateKeyResult := by
  refine ⟨by decide, fun s => ⟨?effect, fun hkey => ?key⟩⟩
  case effect =>
    rintro hkey k rfl
    exact (exec_expandstateK_of_valid hkey).trans (congrArg _ (setSubkeys_succeed s _))
  case key => exact exec_of_blowfish_cause (i := .expandstateK) (e := .invalidKey) rfl (keyCause_of_zero hkey)

/-- Settles O35: the phase 1 clause is `mixKey_getElem` with the four words of a stream of sixteen bytes. -/
theorem expandstateSaltResult : Obligations.ExpandstateSaltResult := by
  refine ⟨by decide, fun s => ⟨?effect, fun hsalt => ?salt⟩, fun salt P i => ?phase1⟩
  case effect =>
    rintro hsalt k rfl
    exact (exec_expandstateS_of_valid hsalt).trans (congrArg _ (setSubkeys_succeed s _))
  case salt =>
    exact exec_of_blowfish_cause (i := .expandstateS) (e := .invalidSalt) rfl (saltCause_of_ne_sixteen hsalt)
  case phase1 => exact (mixKey_getElem salt 16 P i i.isLt).trans (by rw [keyStreamWord_sixteen]; rfl)

/-- Settles O36: `SetupReady` gives the effect, and the errors are `exec_setup_errors`. -/
theorem ekssetupResult : Obligations.EkssetupResult := by
  refine ⟨by decide, fun s => ⟨?effect, exec_setup_errors (.inl rfl) s⟩⟩
  rintro hmin hmax hsalt hkey k rfl
  exact (exec_ekssetup_of_ready (setupReady_of_words hmin hmax hsalt hkey)).trans
    (congrArg _ (setSubkeys_succeed s _))

/-- Settles O37: no check precedes the effect. -/
theorem ecbmagicResult : Obligations.EcbmagicResult :=
  ⟨by decide, exec_ecbmagic⟩

/-- A successful `BCRYPT`, field by field (43_eksblowfish.md rule R100). -/
theorem setDigest_scrub_succeed (s : State) (d : Vector Byte 24) :
    (s.setDigest d).scrub.succeed = { s.scrub with DIGEST := d, ERR := 0 } := by
  apply State.ext <;> simp

/-- Settles O38: after the scrub the key length is 0, so a second `BCRYPT` fails on the key, and its own scrub finds
a clean state. -/
theorem bcryptResult : Obligations.BcryptResult := by
  refine ⟨by decide, fun s => ⟨?effect, exec_setup_errors (.inr rfl) s⟩⟩
  rintro hmin hmax hsalt hkey d rfl
  constructor
  · exact (exec_bcrypt_of_ready (setupReady_of_words hmin hmax hsalt hkey)).trans
      (congrArg _ (setDigest_scrub_succeed s _))
  · generalize ecbMagic _ = d
    have hclean : State.Clean { s.scrub with DIGEST := d, ERR := 0 } := s.scrub_clean
    obtain ⟨-, -, key_error⟩ := exec_setup_errors (.inr rfl) { s.scrub with DIGEST := d, ERR := 0 }
    rw [key_error hmin hmax hsalt rfl, scrub_eq_self_of_clean hclean]

/-! ## What the results depend on -/

/-- Only the effect's value in the state before counts at the end of a command. -/
theorem complete_congr {u : FunctionalUnit} {cause : Option ErrorKind} {f g : State → State} {s : State}
    (h : f s = g s) : complete u cause f s = complete u cause g s := by
  cases cause with
  | some e => rw [complete_some, complete_some]
  | none => rw [complete_none, complete_none, h]

/-- Settles O25: `expand_zero_data`, with the salt check passed and the key check shared. -/
theorem zeroSaltIsNoSalt : Obligations.ZeroSaltIsNoSalt := by
  refine ⟨fun n k key klen => expand_zero_data k key klen, fun s hzero hsalt => ?_⟩
  have hcause : causeOf .expandkey s = causeOf .expandstateK s := saltKeyCause_of_sixteen hsalt
  have heffect : effectOf .expandkey s = effectOf .expandstateK s := by
    rw [effectOf, effectOf, hzero, expand_zero_data]
  rw [exec_eq_complete, exec_eq_complete, hcause]
  exact complete_congr heffect

/-- Rule R14 of 10_state.md: a `KEYLEN` of 72 or more acts as 72. -/
theorem klen_of_le {s : State} (h : 72 ≤ s.KEYLEN.toNat) : s.klen = 72 := Nat.min_eq_right h

/-- Agreement on what a command that uses the key leaves, but for `ERR`. -/
abbrev SameKeyResults (t u : State) : Prop := t.P = u.P ∧ t.S = u.S ∧ t.DIGEST = u.DIGEST

/-- With `KEYLEN` 72 or more, each command that uses the key finds the same cause and has the same effect at any
other such length: the key check passes at both, and `klen` is 72 at both. -/
theorem causeOf_effectOf_setKeylen {s : State} {v : Word} {i : Instr} (hlen : 72 ≤ s.KEYLEN.toNat) (hv : 72 ≤ v.toNat)
    (hi : i ∈ [Instr.expandkey, .expandstateK, .ekssetup, .bcrypt]) :
    causeOf i s = causeOf i (s.setKeylen v) ∧ SameKeyResults (effectOf i s) (effectOf i (s.setKeylen v)) := by
  have hklen : s.klen = (s.setKeylen v).klen := (klen_of_le hlen).trans (klen_of_le hv).symm
  have hderived : s.derivedSubkeys = (s.setKeylen v).derivedSubkeys := by
    rw [State.derivedSubkeys, hklen]
    rfl
  have hkey : s.keyCause = (s.setKeylen v).keyCause := by
    rw [State.keyCause_eq, State.keyCause_eq, State.setKeylen_KEYLEN, if_neg (by omega), if_neg (by omega)]
  have hsaltKey : s.saltKeyCause = (s.setKeylen v).saltKeyCause := by
    rw [State.saltKeyCause_eq, State.saltKeyCause_eq, hkey, State.setKeylen_SALTLEN]
  have hsetup : s.setupCause = (s.setKeylen v).setupCause := by
    rw [State.setupCause_eq, State.setupCause_eq, hsaltKey, State.setKeylen_COST]
  simp only [List.mem_cons, List.not_mem_nil, or_false] at hi
  rcases hi with rfl | rfl | rfl | rfl
  · exact ⟨hsaltKey, by simp [effectOf, SameKeyResults, hklen, State.subkeys]⟩
  · exact ⟨hkey, by simp [effectOf, SameKeyResults, hklen, State.subkeys]⟩
  · exact ⟨hsetup, by simp [effectOf, SameKeyResults, hderived]⟩
  · exact ⟨hsetup, by simp [effectOf, SameKeyResults, hderived]⟩

/-- Settles O27: the two executions end alike by `causeOf_effectOf_setKeylen`. -/
theorem keyLengthIsCutAt72 : Obligations.KeyLengthIsCutAt72 := by
  intro s v i hlen hv hi
  obtain ⟨hcause, heffect⟩ := causeOf_effectOf_setKeylen hlen hv hi
  obtain ⟨t, hexec⟩ := exists_exec_eq_next i s
  obtain ⟨u, hexec', ⟨hP, hS, hdigest⟩, herr⟩ :=
    exec_congr (R := SameKeyResults) hexec hcause (fun e => by cases unitOf i <;> simp [SameKeyResults])
      (by simpa [SameKeyResults] using heffect)
  exact ⟨t, u, hexec, hexec', hP, hS, hdigest, herr⟩

/-- The setup reads its key through the key stream only. -/
theorem eksSetup_congr {m n : Nat} {key : Vector Byte m} {key' : Vector Byte n} {len len' : Nat}
    (h : SameStream key len key' len') (salt : Vector Byte 16) (c : Nat) :
    eksSetup key len salt c = eksSetup key' len' salt c := by
  have hiteration : eksIteration key len salt = eksIteration key' len' salt := by
    funext k
    rw [eksIteration, eksIteration, expand_congr h]
  rw [eksSetup, eksSetup, hiteration, expand_congr h]

/-- Settles O28: equal effective inputs derive equal subkeys, and `DIGEST` is computed from them alone. -/
theorem bcryptDigestIsPure : Obligations.BcryptDigestIsPure := by
  intro s t hs ht hsame
  obtain ⟨hklen, hkey, hsalt, hcost⟩ := hsame
  have hstream : SameStream s.KEY s.klen t.KEY s.klen :=
    sameStream_of_agree (s.klen_pos (by omega)) s.klen_le hkey
  have hderived : s.derivedSubkeys = t.derivedSubkeys := by
    rw [State.derivedSubkeys, State.derivedSubkeys, eksSetup_congr hstream, hklen, hsalt, hcost]
  refine ⟨_, _, exec_bcrypt_of_ready hs, exec_bcrypt_of_ready ht, State.succeed_ERR _, State.succeed_ERR _, ?_⟩
  simp [hderived]

end Sys2Proof.Machine
end

section
/-!
PROOFS. Host sequences of commands (43_eksblowfish.md rule R104). A command neither reads nor writes the host's
events, so a sequence run through the port is its commands run one after the other (`runCommands_cons`); the composite
commands are then compared with their sequences on the subkeys alone.
-/

namespace Sys2Proof.Machine

/-! ## Commands and the events to come -/

theorem causeOf_setInbox (i : Instr) (s : State) (es : List HostEvent) : causeOf i (s.setInbox es) = causeOf i s := by
  cases i <;> rfl

theorem setSubkeys_setInbox (s : State) (es : List HostEvent) (k : Subkeys) :
    (s.setInbox es).setSubkeys k = (s.setSubkeys k).setInbox es := rfl

theorem setDigest_setInbox (s : State) (es : List HostEvent) (d : Vector Byte 24) :
    (s.setInbox es).setDigest d = (s.setDigest d).setInbox es := rfl

theorem scrub_setInbox (s : State) (es : List HostEvent) : (s.setInbox es).scrub = s.scrub.setInbox es := rfl

theorem derivedSubkeys_setInbox (s : State) (es : List HostEvent) :
    (s.setInbox es).derivedSubkeys = s.derivedSubkeys := rfl

/-- No effect reads or writes the host's events. -/
theorem effectOf_setInbox (i : Instr) (s : State) (es : List HostEvent) :
    effectOf i (s.setInbox es) = (effectOf i s).setInbox es := by
  cases i with
  | expandkey | expandstateK | expandstateS => exact setSubkeys_setInbox s es _
  | ekssetup => rw [effectOf, derivedSubkeys_setInbox, setSubkeys_setInbox, effectOf]
  | bcrypt => rw [effectOf, derivedSubkeys_setInbox, setDigest_setInbox, scrub_setInbox, effectOf]
  | _ => rfl

theorem raise_setInbox (s : State) (u : FunctionalUnit) (e : ErrorKind) (es : List HostEvent) :
    (s.setInbox es).raise u e = (s.raise u e).setInbox es := by
  cases u <;> rfl

/-- A command does the same whatever events are still to come. -/
theorem exec_setInbox {i : Instr} {s t : State} (h : exec i s = .next t) (es : List HostEvent) :
    exec i (s.setInbox es) = .next (t.setInbox es) := by
  rw [exec_eq_complete, causeOf_setInbox]
  rcases exec_cases h with ⟨e, hcause, rfl⟩ | ⟨hpass, rfl⟩
  · rw [hcause, complete_some, raise_setInbox]
  · rw [hpass, complete_none, effectOf_setInbox]
    rfl

/-! ## Sequences of commands through the port -/

@[simp] theorem runCommands_nil (s : State) : runCommands [] s = .next (s.setInbox []) := rfl

/-- The first command of a sequence is performed, and the rest of the sequence runs on its result. -/
theorem runCommands_cons {i : Instr} {s t : State} (hwf : i.WellFormed) (h : exec i s = .next t) (is : List Instr) :
    runCommands (i :: is) s = runCommands is t := by
  have hstep : step (s.issueAll (i :: is)) = .next (t.issueAll is) :=
    calc step (s.issueAll (i :: is))
      _ = execWord (encode i) (s.issueAll is) := step_issueCommand (s.issueAll is) (encode i)
      _ = exec i (s.issueAll is) := execWord_of_ok (decodeOfEncode i hwf) _
      _ = .next (t.issueAll is) := exec_setInbox h _
  exact run_succ_of_next hstep is.length

/-! ## The key setup -/

/-- Subkeys stored over subkeys: only the last ones stay. -/
theorem setSubkeys_succeed_setSubkeys (s : State) (k k' : Subkeys) :
    ((s.setSubkeys k).succeed.setSubkeys k').succeed = (s.setSubkeys k').succeed := rfl

/-- `n` turns of `EXPANDSTATE.K`; `EXPANDSTATE.S` from subkeys `k` leave those of `n` iterations of rule R95. -/
theorem runCommands_rounds {s : State} (hsalt : s.SALTLEN = 16) (hkey : s.KEYLEN ≠ 0) (n : Nat) (k : Subkeys) :
    runCommands (List.replicate n [Instr.expandstateK, .expandstateS]).flatten (s.setSubkeys k).succeed =
      .next ((s.setSubkeys ((eksIteration s.KEY s.klen s.SALT)^[n] k)).succeed.setInbox []) := by
  induction n generalizing k with
  | zero => rfl
  | succ n ih =>
    have hK : exec .expandstateK (s.setSubkeys k).succeed =
        .next (s.setSubkeys (expand k s.KEY s.klen none)).succeed :=
      (exec_expandstateK_of_valid (s := (s.setSubkeys k).succeed) hkey).trans
        (congrArg _ (setSubkeys_succeed_setSubkeys s k _))
    have hS : exec .expandstateS (s.setSubkeys (expand k s.KEY s.klen none)).succeed =
        .next (s.setSubkeys (eksIteration s.KEY s.klen s.SALT k)).succeed :=
      (exec_expandstateS_of_valid (s := (s.setSubkeys (expand k s.KEY s.klen none)).succeed) hsalt).trans
        (congrArg _ (setSubkeys_succeed_setSubkeys s _ _))
    rw [List.replicate_succ, List.flatten_cons, List.cons_append, List.cons_append, List.nil_append,
      runCommands_cons rfl hK, runCommands_cons rfl hS, ih, Function.iterate_succ_apply]

/-- Settles O40: `INIT` and `EXPANDKEY` leave the subkeys from which the iterations of `EksSetup` start. -/
theorem ekssetupEqualsPrimitives : Obligations.EkssetupEqualsPrimitives := by
  intro s hready
  have hinit : exec .init s = .next (s.setSubkeys piSubkeys).succeed := exec_init s
  have hexpandkey : exec .expandkey (s.setSubkeys piSubkeys).succeed =
      .next (s.setSubkeys (expand piSubkeys s.KEY s.klen (some s.SALT))).succeed :=
    (exec_expandkey_of_valid (s := (s.setSubkeys piSubkeys).succeed) hready.saltlen hready.keylen).trans
      (congrArg _ (setSubkeys_succeed_setSubkeys s piSubkeys _))
  have hderived : s.derivedSubkeys = (eksIteration s.KEY s.klen s.SALT)^[2 ^ s.COST.toNat]
      (expand piSubkeys s.KEY s.klen (some s.SALT)) := by rw [State.derivedSubkeys, eksSetup]
  refine ⟨(s.setSubkeys s.derivedSubkeys).succeed.setInbox [], ?sequence, ?err, ?command⟩
  case sequence =>
    rw [setupSequence, List.cons_append, List.cons_append, List.nil_append, runCommands_cons rfl hinit,
      runCommands_cons rfl hexpandkey, runCommands_rounds hready.saltlen hready.keylen, hderived]
  case err => rw [State.setInbox_ERR, State.succeed_ERR]
  case command => rw [runCommands_cons rfl (exec_ekssetup_of_ready hready), runCommands_nil]

/-- Settles O41: the three commands write the derived subkeys, their digest, and then zeros over the subkeys that
`BCRYPT` never stored. -/
theorem bcryptEqualsThreeCommands : Obligations.BcryptEqualsThreeCommands := by
  intro s hready
  have hdigest : exec .ecbmagic (s.setSubkeys s.derivedSubkeys).succeed =
      .next ((s.setSubkeys s.derivedSubkeys).succeed.setDigest (ecbMagic s.derivedSubkeys)).succeed := exec_ecbmagic _
  have hscrubbed :
      ((s.setSubkeys s.derivedSubkeys).succeed.setDigest (ecbMagic s.derivedSubkeys)).succeed.scrub.succeed =
      (s.setDigest (ecbMagic s.derivedSubkeys)).scrub.succeed := by apply State.ext <;> simp
  refine ⟨(s.setDigest (ecbMagic s.derivedSubkeys)).scrub.succeed.setInbox [], ?sequence, ?err, ?command⟩
  case sequence =>
    rw [runCommands_cons rfl (exec_ekssetup_of_ready hready), runCommands_cons rfl hdigest,
      runCommands_cons rfl (exec_scrub _), hscrubbed, runCommands_nil]
  case err => rw [State.setInbox_ERR, State.succeed_ERR]
  case command => rw [runCommands_cons rfl (exec_bcrypt_of_ready hready), runCommands_nil]

end Sys2Proof.Machine
end

section
/-!
PROOFS. `Enc` and `Dec` against each other (40_base64.md rule R67). The bytes of a group come back from its values;
the values come back from the bytes but for the surplus bits of a last group of two or three values.
-/

namespace Sys2Proof.Machine

/-! ## Decoding what was encoded -/

theorem decBytes_encValues (bs : List Byte) : decBytes (encValues bs) = bs := by
  induction bs using encValues.induct with
  | case1 => rfl
  | case2 b0 => simp [encValues, decBytes]
  | case3 b0 b1 => simp [encValues, decBytes]
  | case4 b0 b1 b2 rest ih => simp [encValues, decBytes, ih]

/-- No encoding has a length of 1 modulo 4. -/
theorem encLen_mod_four (n : Nat) : encLen n % 4 ≠ 1 := by
  simp only [encLen]
  omega

theorem dec_enc (bs : List Byte) : dec (enc bs) = some bs := by
  have hlen : (encValues bs).length % 4 ≠ 1 := encValues_length bs ▸ encLen_mod_four _
  rw [enc, dec_map_alpha hlen, decBytes_encValues]

/-- Settles O50: group by group, `decBytes_encValues`. -/
theorem decodeUndoesEncode : Obligations.DecodeUndoesEncode := dec_enc

/-! ## Encoding what was decoded -/

theorem alpha_injective : Function.Injective alpha := fun v w h =>
  Option.some.inj ((charVal_alpha v).symm.trans (h ▸ charVal_alpha w))

/-- The second value of a last group of one byte comes back with its four surplus bits cleared. -/
theorem sextet1_zero_eq_and (v0 v1 : BitVec 6) : sextet1 (octet0 v0 v1) 0#8 = v1 &&& 0x30#6 := by
  apply BitVec.eq_of_getLsbD_eq
  intro i hi
  interval_cases i <;>
    (simp only [octet0, sextet1, BitVec.getLsbD_append, BitVec.getLsbD_extractLsb', BitVec.getLsbD_and]; simp)

/-- The third value of a last group of two bytes comes back with its two surplus bits cleared. -/
theorem sextet2_zero_eq_and (v1 v2 : BitVec 6) : sextet2 (octet1 v1 v2) 0#8 = v2 &&& 0x3C#6 := by
  apply BitVec.eq_of_getLsbD_eq
  intro i hi
  interval_cases i <;>
    (simp only [octet1, sextet2, BitVec.getLsbD_append, BitVec.getLsbD_extractLsb', BitVec.getLsbD_and]; simp)

theorem and_fourSurplus_eq_iff : ∀ v : BitVec 6, v &&& 0x30#6 = v ↔ v.toNat % 16 = 0 := by decide
theorem and_twoSurplus_eq_iff : ∀ v : BitVec 6, v &&& 0x3C#6 = v ↔ v.toNat % 4 = 0 := by decide

/-- The surplus bits of the last value are zero (rule R63): four of them at length 2 modulo 4, two at length 3. -/
abbrev SurplusZero (vs : List (BitVec 6)) : Prop :=
  (vs.length % 4 = 2 → (vs.getLastD 0).toNat % 16 = 0) ∧ (vs.length % 4 = 3 → (vs.getLastD 0).toNat % 4 = 0)

/-- A full group in front does not change which bits are surplus. -/
theorem surplusZero_group (v0 v1 v2 v3 : BitVec 6) (rest : List (BitVec 6)) :
    SurplusZero (v0 :: v1 :: v2 :: v3 :: rest) ↔ SurplusZero rest := by
  have hlen : (v0 :: v1 :: v2 :: v3 :: rest).length % 4 = rest.length % 4 := Nat.add_mod_right rest.length 4
  rw [SurplusZero, hlen]
  cases rest with
  | nil => simp [SurplusZero]
  | cons v rest => simp only [SurplusZero, List.getLastD_cons]

theorem encValues_decBytes_eq_iff {vs : List (BitVec 6)} (h : vs.length % 4 ≠ 1) :
    encValues (decBytes vs) = vs ↔ SurplusZero vs := by
  induction vs using decBytes.induct with
  | case1 => simp [decBytes, encValues, SurplusZero]
  | case2 v0 => exact absurd rfl h
  | case3 v0 v1 => simp [decBytes, encValues, SurplusZero, sextet1_zero_eq_and, and_fourSurplus_eq_iff]
  | case4 v0 v1 v2 => simp [decBytes, encValues, SurplusZero, sextet2_zero_eq_and, and_twoSurplus_eq_iff]
  | case5 v0 v1 v2 v3 rest ih =>
    have hrest : rest.length % 4 ≠ 1 := Nat.add_mod_right rest.length 4 ▸ h
    rw [surplusZero_group, ← ih hrest]
    simp [decBytes, encValues]

/-- The lengths of rules R62 and R63 are inverse on the lengths that decode. -/
theorem encLen_decLen {n : Nat} (h : n % 4 ≠ 1) : encLen (decLen n) = n := by
  have hlegal : n % 4 = 0 ∨ n % 4 = 2 ∨ n % 4 = 3 := by omega
  simp only [encLen, decLen]
  rcases hlegal with hmod | hmod | hmod <;> omega

theorem encValues_decBytes_length {vs : List (BitVec 6)} (h : vs.length % 4 ≠ 1) :
    (encValues (decBytes vs)).length = vs.length := by
  rw [encValues_length, decBytes_length, encLen_decLen h]

/-- Every value but the last comes back. -/
theorem encValues_decBytes_getElem? {vs : List (BitVec 6)} {i : Nat} (h : i + 1 < vs.length) :
    (encValues (decBytes vs))[i]? = vs[i]? := by
  induction vs using decBytes.induct generalizing i with
  | case1 | case2 => simp at h
  | case3 v0 v1 =>
    obtain rfl : i = 0 := by simpa using h
    simp [decBytes, encValues]
  | case4 v0 v1 v2 =>
    have hi : i < 2 := Nat.lt_of_succ_lt_succ h
    interval_cases i <;> simp [decBytes, encValues]
  | case5 v0 v1 v2 v3 rest ih =>
    rcases i with _ | _ | _ | _ | i
    case succ.succ.succ.succ => simpa [decBytes, encValues] using ih (by simpa using h)
    all_goals simp [decBytes, encValues]

/-- Settles O51: the three facts about the values, carried through the injective alphabet. -/
theorem encodeUndoesDecodeUpToSurplus : Obligations.EncodeUndoesDecodeUpToSurplus := by
  intro vs bs hdec
  have hlen : vs.length % 4 ≠ 1 := by
    intro hone
    have hnone : dec (vs.map alpha) = none := (dec_eq_none_iff _).mpr (.inl (by rwa [List.length_map]))
    exact nomatch hnone.symm.trans hdec
  obtain rfl : decBytes vs = bs := Option.some.inj ((dec_map_alpha hlen).symm.trans hdec)
  refine ⟨?length, fun i hi => ?front, ?whole⟩
  case length => rw [enc, List.length_map, encValues_decBytes_length hlen]
  case front => rw [enc, List.getElem?_map, List.getElem?_map, encValues_decBytes_getElem? hi]
  case whole => rw [enc, (List.map_injective_iff.mpr alpha_injective).eq_iff, encValues_decBytes_eq_iff hlen]

/-! ## The two commands one after the other -/

/-- Writing a buffer's own first bytes to its front changes nothing. -/
theorem writeFront_take_self {n : Nat} (X : Vector Byte n) (m : Nat) : writeFront X (X.toList.take m) = X := by
  ext i hi
  by_cases him : i < m <;> simp [him, hi]

/-- The lengths of rules R62 and R63 are inverse. -/
theorem decLen_encLen (n : Nat) : decLen (encLen n) = n := by
  simp only [decLen, encLen]
  omega

/-- Settles O54: the text that `B64DEC` reads is what `B64ENC` wrote, so it decodes to the first bytes of `BBUF`,
which are written back to where they stand. -/
theorem encodeThenDecodeOnMachine : Obligations.EncodeThenDecodeOnMachine := by
  intro n s hn
  have hlen : encLen n ≤ 32 := by simp only [encLen]; omega
  obtain ⟨t, ht⟩ : ∃ t, t = (s.setText (enc (s.binaryFront n)) (encLen n)).succeed := ⟨_, rfl⟩
  have hclen : t.CLEN.toNat = encLen n := by
    rw [ht, State.succeed_CLEN, State.setText_CLEN, BitVec.toNat_ofNat, Nat.mod_eq_of_lt (by omega)]
  have htext : t.textFront (encLen n) = enc (s.binaryFront n) := by
    rw [ht, State.textFront, State.succeed_CBUF, State.setText_CBUF]
    exact writeFront_take s.CBUF (by rw [enc_length, binaryFront_length hn]) hlen
  have hbbuf : t.BBUF = s.BBUF := by rw [ht, State.succeed_BBUF, State.setText_BBUF]
  have hdec : exec (.b64dec t.CLEN.toNat) t = .next (t.setBinary (s.binaryFront n) n).succeed := by
    rw [hclen, exec_b64dec_of_dec hlen (htext ▸ dec_enc _), decLen_encLen]
  refine ⟨t, _, ht ▸ exec_b64enc_of_le hn s, ht ▸ State.succeed_ERR _, hdec, State.succeed_ERR _, ?bytes, ?length⟩
  case bytes => rw [State.succeed_BBUF, State.setBinary_BBUF, hbbuf, State.binaryFront, writeFront_take_self]
  case length =>
    rw [State.succeed_BLEN, State.setBinary_BLEN, BitVec.toNat_ofNat, Nat.mod_eq_of_lt (by omega)]

end Sys2Proof.Machine
end
